-- ==== Sys2Proof/Word.lean ====
section
/-! DEFINITION. Word.lean: the two widths of the machine (spec 00_scope.md R7, R9): bytes and 16-bit words. -/

namespace Sys2Proof

/-- One memory cell, one instruction byte: 8 bits, unsigned (R7, R9). -/
abbrev Byte : Type := BitVec 8

/-- A register, an address, an ALU value: 16 bits, unsigned (R7, R9). -/
abbrev Word : Type := BitVec 16

end Sys2Proof
end

