-- ==== Sys2Proof/Config.lean ====
section
/-! DEFINITION. Config.lean: the fixed parameters of the machine (spec 00_scope.md R7) and the type of a
configuration, the ten gates (10_state.md R26, R30). The gates of a run stand in `State`. The spec leaves no value of
a run open, so there is no free value here. -/

namespace Sys2Proof

/-- MEM_SIZE: the number of memory cells (R7). -/
def Config.memSize : Nat := 65536

/-- The length of every instruction in bytes (R7, R90). -/
def Config.instrBytes : Nat := 3

/-- What a cell reads as that nothing has written since reset (R40, R73: every cell not written by the loader is 0). -/
def Config.resetByte : Byte := 0

/-- The ten configuration gates `G[0]` to `G[9]` (R26, R30): gate `k` belongs to wire `k`; false cuts the wire. -/
structure Gates where
  g0 : Bool
  g1 : Bool
  g2 : Bool
  g3 : Bool
  g4 : Bool
  g5 : Bool
  g6 : Bool
  g7 : Bool
  g8 : Bool
  g9 : Bool
  deriving DecidableEq, Repr

/-- All ten gates enabled: the configuration when the host gives no string (R30, the spec's decision D3). -/
def Config.allEnabled : Gates :=
  { g0 := true, g1 := true, g2 := true, g3 := true, g4 := true,
    g5 := true, g6 := true, g7 := true, g8 := true, g9 := true }

end Sys2Proof
end

