-- ==== Sys2Proof/Syntax.lean ====
section
/-! DEFINITION. Syntax.lean: the instructions, one constructor for each of the 59 rows of spec/opcode_table.json. The
mnemonics are the spec's (30_encoding.md R98, R100; decision D7). Fields:
`b3` is bit 3 of the opcode, which rows 0 to E ignore (R99) and the syntax keeps, so that encoding an instruction gives
back the very word it was decoded from; `low` is the low nibble of a reserved opcode (R260); `ah`, `al` are the
instruction's second and third bytes (R91). NOPF has eleven rows in the table and so eleven constructors, named after
their opcode bytes. -/

namespace Sys2Proof

/-- The instructions of OS-CORE, in the order of spec/opcode_table.json. -/
inductive Instr where
  /-- SGNM, 0x00 and 0x08 (R200): source memory, destination memory at EA. -/
  | sgnm (b3 : Bool) (ah al : Byte)
  /-- SGNA, 0x01 and 0x09 (R201): source memory, destination AX and the flags. -/
  | sgna (b3 : Bool) (ah al : Byte)
  /-- SGNS, 0x02 and 0x0A (R202): source memory, destination SI. -/
  | sgns (b3 : Bool) (ah al : Byte)
  /-- SGNN, 0x03 and 0x0B (R203): source memory, no destination. -/
  | sgnn (b3 : Bool) (ah al : Byte)
  /-- SGNMI, 0x04 and 0x0C (R204): source immediate, destination memory at EA. -/
  | sgnmi (b3 : Bool) (ah al : Byte)
  /-- SGNAI, 0x05 and 0x0D (R205): source immediate, destination AX and the flags. -/
  | sgnai (b3 : Bool) (ah al : Byte)
  /-- SGNSI, 0x06 and 0x0E (R206): source immediate, destination SI. -/
  | sgnsi (b3 : Bool) (ah al : Byte)
  /-- SGNNI, 0x07 and 0x0F (R207): source immediate, no destination. -/
  | sgnni (b3 : Bool) (ah al : Byte)
  /-- MOVM, 0x10 and 0x18 (R210): source memory, destination memory at EA. -/
  | movm (b3 : Bool) (ah al : Byte)
  /-- MOVA, 0x11 and 0x19 (R211): source memory, destination AX and the flags. -/
  | mova (b3 : Bool) (ah al : Byte)
  /-- MOVS, 0x12 and 0x1A (R212): source memory, destination SI. -/
  | movs (b3 : Bool) (ah al : Byte)
  /-- MOVN, 0x13 and 0x1B (R213): source memory, no destination. -/
  | movn (b3 : Bool) (ah al : Byte)
  /-- MOVMI, 0x14 and 0x1C (R214): source immediate, destination memory at EA. -/
  | movmi (b3 : Bool) (ah al : Byte)
  /-- MOVAI, 0x15 and 0x1D (R215): source immediate, destination AX and the flags. -/
  | movai (b3 : Bool) (ah al : Byte)
  /-- MOVSI, 0x16 and 0x1E (R216): source immediate, destination SI. -/
  | movsi (b3 : Bool) (ah al : Byte)
  /-- MOVNI, 0x17 and 0x1F (R217): source immediate, no destination. -/
  | movni (b3 : Bool) (ah al : Byte)
  /-- ADDM, 0x20 and 0x28 (R220): source memory, destination memory at EA. -/
  | addm (b3 : Bool) (ah al : Byte)
  /-- ADDA, 0x21 and 0x29 (R221): source memory, destination AX and the flags. -/
  | adda (b3 : Bool) (ah al : Byte)
  /-- ADDS, 0x22 and 0x2A (R222): source memory, destination SI. -/
  | adds (b3 : Bool) (ah al : Byte)
  /-- ADDN, 0x23 and 0x2B (R223): source memory, no destination. -/
  | addn (b3 : Bool) (ah al : Byte)
  /-- ADDMI, 0x24 and 0x2C (R224): source immediate, destination memory at EA. -/
  | addmi (b3 : Bool) (ah al : Byte)
  /-- ADDAI, 0x25 and 0x2D (R225): source immediate, destination AX and the flags. -/
  | addai (b3 : Bool) (ah al : Byte)
  /-- ADDSI, 0x26 and 0x2E (R226): source immediate, destination SI. -/
  | addsi (b3 : Bool) (ah al : Byte)
  /-- ADDNI, 0x27 and 0x2F (R227): source immediate, no destination. -/
  | addni (b3 : Bool) (ah al : Byte)
  /-- SUBM, 0x30 and 0x38 (R230): source memory, destination memory at EA. -/
  | subm (b3 : Bool) (ah al : Byte)
  /-- SUBA, 0x31 and 0x39 (R231): source memory, destination AX and the flags. -/
  | suba (b3 : Bool) (ah al : Byte)
  /-- SUBS, 0x32 and 0x3A (R232): source memory, destination SI. -/
  | subs (b3 : Bool) (ah al : Byte)
  /-- SUBN, 0x33 and 0x3B (R233): source memory, no destination. -/
  | subn (b3 : Bool) (ah al : Byte)
  /-- SUBMI, 0x34 and 0x3C (R234): source immediate, destination memory at EA. -/
  | submi (b3 : Bool) (ah al : Byte)
  /-- SUBAI, 0x35 and 0x3D (R235): source immediate, destination AX and the flags. -/
  | subai (b3 : Bool) (ah al : Byte)
  /-- SUBSI, 0x36 and 0x3E (R236): source immediate, destination SI. -/
  | subsi (b3 : Bool) (ah al : Byte)
  /-- SUBNI, 0x37 and 0x3F (R237): source immediate, no destination. -/
  | subni (b3 : Bool) (ah al : Byte)
  /-- HLT, 0xFF (R240): halt. -/
  | hlt (ah al : Byte)
  /-- JMP, 0xFE (R241): jump to EA. -/
  | jmp (ah al : Byte)
  /-- JMPB, 0xF4 (R242): jump to EA, second encoding. -/
  | jmpb (ah al : Byte)
  /-- JZ, 0xF0 (R243): jump to EA when the zero flag is effective. -/
  | jz (ah al : Byte)
  /-- JP, 0xF1 (R244): jump to EA when the positive flag is effective. -/
  | jp (ah al : Byte)
  /-- NOPF, 0xF2 (R245): clears SI and goes on. -/
  | nopfF2 (ah al : Byte)
  /-- NOPF, 0xF3 (R245): clears SI and goes on. -/
  | nopfF3 (ah al : Byte)
  /-- NOPF, 0xF5 (R245): clears SI and goes on. -/
  | nopfF5 (ah al : Byte)
  /-- NOPF, 0xF6 (R245): clears SI and goes on. -/
  | nopfF6 (ah al : Byte)
  /-- NOPF, 0xF7 (R245): clears SI and goes on. -/
  | nopfF7 (ah al : Byte)
  /-- NOPF, 0xF8 (R245): clears SI and goes on. -/
  | nopfF8 (ah al : Byte)
  /-- NOPF, 0xF9 (R245): clears SI and goes on. -/
  | nopfF9 (ah al : Byte)
  /-- NOPF, 0xFA (R245): clears SI and goes on. -/
  | nopfFA (ah al : Byte)
  /-- NOPF, 0xFB (R245): clears SI and goes on. -/
  | nopfFB (ah al : Byte)
  /-- NOPF, 0xFC (R245): clears SI and goes on. -/
  | nopfFC (ah al : Byte)
  /-- NOPF, 0xFD (R245): clears SI and goes on. -/
  | nopfFD (ah al : Byte)
  /-- RSV4, 0x40 to 0x4F (R260 to R262): reserved. -/
  | rsv4 (low : BitVec 4) (ah al : Byte)
  /-- RSV5, 0x50 to 0x5F (R260 to R262): reserved. -/
  | rsv5 (low : BitVec 4) (ah al : Byte)
  /-- RSV6, 0x60 to 0x6F (R260 to R262): reserved. -/
  | rsv6 (low : BitVec 4) (ah al : Byte)
  /-- RSV7, 0x70 to 0x7F (R260 to R262): reserved. -/
  | rsv7 (low : BitVec 4) (ah al : Byte)
  /-- RSV8, 0x80 to 0x8F (R260 to R262): reserved. -/
  | rsv8 (low : BitVec 4) (ah al : Byte)
  /-- RSV9, 0x90 to 0x9F (R260 to R262): reserved. -/
  | rsv9 (low : BitVec 4) (ah al : Byte)
  /-- RSVA, 0xA0 to 0xAF (R260 to R262): reserved. -/
  | rsvA (low : BitVec 4) (ah al : Byte)
  /-- RSVB, 0xB0 to 0xBF (R260 to R262): reserved. -/
  | rsvB (low : BitVec 4) (ah al : Byte)
  /-- RSVC, 0xC0 to 0xCF (R260 to R262): reserved. -/
  | rsvC (low : BitVec 4) (ah al : Byte)
  /-- RSVD, 0xD0 to 0xDF (R260 to R262): reserved. -/
  | rsvD (low : BitVec 4) (ah al : Byte)
  /-- RSVE, 0xE0 to 0xEF (R260 to R262): reserved. -/
  | rsvE (low : BitVec 4) (ah al : Byte)
  deriving DecidableEq, Repr

end Sys2Proof
end

