-- ==== Sys2Proof/WellFormed.lean ====
section
/-! DEFINITION. WellFormed.lean: which terms stand for something the machine can be given.
The fields of `Instr` have exactly the widths of the encoding (30_encoding.md R91, R92), so every term of `Instr` is an
instruction and `Instr.wellFormed` refuses none. Two checks do refuse: an encoding that is not the one an assembler emits
(R99, R105, R245), and an image that does not fit into memory (80 R364). -/

namespace Sys2Proof

/-- Every term of `Instr` is well formed: bit 3 may be 0 or 1 (R99), the low nibble of a reserved opcode and the two
address bytes may be anything (R103, R260), and the widths are those of the types. -/
def Instr.wellFormed : Instr → Bool
  | .sgnm _ _ _ => true
  | .sgna _ _ _ => true
  | .sgns _ _ _ => true
  | .sgnn _ _ _ => true
  | .sgnmi _ _ _ => true
  | .sgnai _ _ _ => true
  | .sgnsi _ _ _ => true
  | .sgnni _ _ _ => true
  | .movm _ _ _ => true
  | .mova _ _ _ => true
  | .movs _ _ _ => true
  | .movn _ _ _ => true
  | .movmi _ _ _ => true
  | .movai _ _ _ => true
  | .movsi _ _ _ => true
  | .movni _ _ _ => true
  | .addm _ _ _ => true
  | .adda _ _ _ => true
  | .adds _ _ _ => true
  | .addn _ _ _ => true
  | .addmi _ _ _ => true
  | .addai _ _ _ => true
  | .addsi _ _ _ => true
  | .addni _ _ _ => true
  | .subm _ _ _ => true
  | .suba _ _ _ => true
  | .subs _ _ _ => true
  | .subn _ _ _ => true
  | .submi _ _ _ => true
  | .subai _ _ _ => true
  | .subsi _ _ _ => true
  | .subni _ _ _ => true
  | .hlt _ _ => true
  | .jmp _ _ => true
  | .jmpb _ _ => true
  | .jz _ _ => true
  | .jp _ _ => true
  | .nopfF2 _ _ => true
  | .nopfF3 _ _ => true
  | .nopfF5 _ _ => true
  | .nopfF6 _ _ => true
  | .nopfF7 _ _ => true
  | .nopfF8 _ _ => true
  | .nopfF9 _ _ => true
  | .nopfFA _ _ => true
  | .nopfFB _ _ => true
  | .nopfFC _ _ => true
  | .nopfFD _ _ => true
  | .rsv4 _ _ _ => true
  | .rsv5 _ _ _ => true
  | .rsv6 _ _ _ => true
  | .rsv7 _ _ _ => true
  | .rsv8 _ _ _ => true
  | .rsv9 _ _ _ => true
  | .rsvA _ _ _ => true
  | .rsvB _ _ _ => true
  | .rsvC _ _ _ => true
  | .rsvD _ _ _ => true
  | .rsvE _ _ _ => true

/-- The encoding an assembler emits (R99: bit 3 clear; R245: 0xF2 for NOPF). The reserved opcodes have no assembler
form of their own (R109), each is its own. The machine runs the other encodings just the same. -/
def Instr.canonical : Instr → Bool
  | .sgnm b3 _ _ => !b3
  | .sgna b3 _ _ => !b3
  | .sgns b3 _ _ => !b3
  | .sgnn b3 _ _ => !b3
  | .sgnmi b3 _ _ => !b3
  | .sgnai b3 _ _ => !b3
  | .sgnsi b3 _ _ => !b3
  | .sgnni b3 _ _ => !b3
  | .movm b3 _ _ => !b3
  | .mova b3 _ _ => !b3
  | .movs b3 _ _ => !b3
  | .movn b3 _ _ => !b3
  | .movmi b3 _ _ => !b3
  | .movai b3 _ _ => !b3
  | .movsi b3 _ _ => !b3
  | .movni b3 _ _ => !b3
  | .addm b3 _ _ => !b3
  | .adda b3 _ _ => !b3
  | .adds b3 _ _ => !b3
  | .addn b3 _ _ => !b3
  | .addmi b3 _ _ => !b3
  | .addai b3 _ _ => !b3
  | .addsi b3 _ _ => !b3
  | .addni b3 _ _ => !b3
  | .subm b3 _ _ => !b3
  | .suba b3 _ _ => !b3
  | .subs b3 _ _ => !b3
  | .subn b3 _ _ => !b3
  | .submi b3 _ _ => !b3
  | .subai b3 _ _ => !b3
  | .subsi b3 _ _ => !b3
  | .subni b3 _ _ => !b3
  | .hlt _ _ => true
  | .jmp _ _ => true
  | .jmpb _ _ => true
  | .jz _ _ => true
  | .jp _ _ => true
  | .nopfF2 _ _ => true
  | .nopfF3 _ _ => false
  | .nopfF5 _ _ => false
  | .nopfF6 _ _ => false
  | .nopfF7 _ _ => false
  | .nopfF8 _ _ => false
  | .nopfF9 _ _ => false
  | .nopfFA _ _ => false
  | .nopfFB _ _ => false
  | .nopfFC _ _ => false
  | .nopfFD _ _ => false
  | .rsv4 _ _ _ => true
  | .rsv5 _ _ _ => true
  | .rsv6 _ _ _ => true
  | .rsv7 _ _ _ => true
  | .rsv8 _ _ _ => true
  | .rsv9 _ _ _ => true
  | .rsvA _ _ _ => true
  | .rsvB _ _ _ => true
  | .rsvC _ _ _ => true
  | .rsvD _ _ _ => true
  | .rsvE _ _ _ => true

/-- An image the loader accepts: at most as many bytes as there are cells (00_scope.md R8, 80 R364). -/
def imageFits (image : List Byte) : Bool := decide (image.length ≤ Config.memSize)

end Sys2Proof
end

