-- ==== Sys2Proof/Decode.lean ====
section
/-! DEFINITION. Decode.lean: reading an instruction from bytes, and after it the encoder (spec 30_encoding.md R90 to R103).
The format OHL (R91): opcode byte, high address byte, low address byte, at rising addresses. The decoder matches the bits
of the opcode exhaustively: no encoding falls through to a neighbour. -/

namespace Sys2Proof

/-- Why a list of bytes holds no instruction. -/
inductive DecodeError where
  /-- Fewer than the three bytes every instruction has (R90). Safe: the machine's fetch always has three (R121). -/
  | truncated
  deriving DecidableEq, Repr

/-- Rows 0 to 3 by the low three bits `i p1 p0` (R97, R98): one family's eight instructions. -/
def decodeRow (op : Byte) (m a s n mi ai si ni : Bool → Instr) : Instr :=
  match op.getLsbD 2, op.getLsbD 1, op.getLsbD 0 with
  | false, false, false => m (op.getLsbD 3)
  | false, false, true => a (op.getLsbD 3)
  | false, true, false => s (op.getLsbD 3)
  | false, true, true => n (op.getLsbD 3)
  | true, false, false => mi (op.getLsbD 3)
  | true, false, true => ai (op.getLsbD 3)
  | true, true, false => si (op.getLsbD 3)
  | true, true, true => ni (op.getLsbD 3)

/-- Row F by the whole low nibble (R93, R100). -/
def decodeRowF (op ah al : Byte) : Instr :=
  match op.getLsbD 3, op.getLsbD 2, op.getLsbD 1, op.getLsbD 0 with
  | false, false, false, false => .jz ah al
  | false, false, false, true => .jp ah al
  | false, false, true, false => .nopfF2 ah al
  | false, false, true, true => .nopfF3 ah al
  | false, true, false, false => .jmpb ah al
  | false, true, false, true => .nopfF5 ah al
  | false, true, true, false => .nopfF6 ah al
  | false, true, true, true => .nopfF7 ah al
  | true, false, false, false => .nopfF8 ah al
  | true, false, false, true => .nopfF9 ah al
  | true, false, true, false => .nopfFA ah al
  | true, false, true, true => .nopfFB ah al
  | true, true, false, false => .nopfFC ah al
  | true, true, false, true => .nopfFD ah al
  | true, true, true, false => .jmp ah al
  | true, true, true, true => .hlt ah al

/-- The instruction whose three bytes are `op`, `ah`, `al`, by the high nibble of the opcode (R92, R96, R100, R101). Total:
every opcode byte is an instruction (R103). -/
def decodeWord (op ah al : Byte) : Instr :=
  match op.getLsbD 7, op.getLsbD 6, op.getLsbD 5, op.getLsbD 4 with
  | false, false, false, false =>
    decodeRow op (.sgnm · ah al) (.sgna · ah al) (.sgns · ah al) (.sgnn · ah al)
      (.sgnmi · ah al) (.sgnai · ah al) (.sgnsi · ah al) (.sgnni · ah al)
  | false, false, false, true =>
    decodeRow op (.movm · ah al) (.mova · ah al) (.movs · ah al) (.movn · ah al)
      (.movmi · ah al) (.movai · ah al) (.movsi · ah al) (.movni · ah al)
  | false, false, true, false =>
    decodeRow op (.addm · ah al) (.adda · ah al) (.adds · ah al) (.addn · ah al)
      (.addmi · ah al) (.addai · ah al) (.addsi · ah al) (.addni · ah al)
  | false, false, true, true =>
    decodeRow op (.subm · ah al) (.suba · ah al) (.subs · ah al) (.subn · ah al)
      (.submi · ah al) (.subai · ah al) (.subsi · ah al) (.subni · ah al)
  | false, true, false, false => .rsv4 (op.extractLsb' 0 4) ah al
  | false, true, false, true => .rsv5 (op.extractLsb' 0 4) ah al
  | false, true, true, false => .rsv6 (op.extractLsb' 0 4) ah al
  | false, true, true, true => .rsv7 (op.extractLsb' 0 4) ah al
  | true, false, false, false => .rsv8 (op.extractLsb' 0 4) ah al
  | true, false, false, true => .rsv9 (op.extractLsb' 0 4) ah al
  | true, false, true, false => .rsvA (op.extractLsb' 0 4) ah al
  | true, false, true, true => .rsvB (op.extractLsb' 0 4) ah al
  | true, true, false, false => .rsvC (op.extractLsb' 0 4) ah al
  | true, true, false, true => .rsvD (op.extractLsb' 0 4) ah al
  | true, true, true, false => .rsvE (op.extractLsb' 0 4) ah al
  | true, true, true, true => decodeRowF op ah al

/-- The instruction at the head of a list of bytes and the bytes after it; a list of fewer than three bytes is rejected by
name (R90). -/
def decode : List Byte → Except DecodeError (Instr × List Byte)
  | op :: ah :: al :: rest => .ok (decodeWord op ah al, rest)
  | _ => .error .truncated

/-- The three bytes of an instruction given as opcode_table.json gives it: one 24-bit word with the opcode in bits 23 to
16, the high address byte in bits 15 to 8 and the low one in bits 7 to 0 (R91); bits from `nbits` up are 0. The opcode
byte is at the lowest address. -/
def tableWordBytes (nbits w : Nat) : List Byte :=
  let v := BitVec.ofNat 24 (w % 2 ^ nbits)
  [v.extractLsb' 16 8, v.extractLsb' 8 8, v.extractLsb' 0 8]

/-- The instruction the decoder reads from a word numbered as opcode_table.json numbers its bits. -/
def decodeTableWord (nbits w : Nat) : Option Instr :=
  match decode (tableWordBytes nbits w) with
  | .ok (i, _) => some i
  | .error _ => none

/-! ### The encoder -/

/-- An opcode byte of rows 0 to 3: `op4`, then `b3`, then the bits `i p1 p0` (R92). -/
def rowOpcode (op4 : BitVec 4) (b3 : Bool) (low3 : BitVec 3) : Byte :=
  op4 ++ (BitVec.ofBool b3 ++ low3 : BitVec 4)

/-- An opcode byte from its two nibbles (R92). -/
def nibblesOpcode (op4 low : BitVec 4) : Byte := op4 ++ low

/-- The opcode byte of an instruction (R98, R100, R101). -/
def Instr.opcode : Instr → Byte
  | .sgnm b3 _ _ => rowOpcode 0 b3 0
  | .sgna b3 _ _ => rowOpcode 0 b3 1
  | .sgns b3 _ _ => rowOpcode 0 b3 2
  | .sgnn b3 _ _ => rowOpcode 0 b3 3
  | .sgnmi b3 _ _ => rowOpcode 0 b3 4
  | .sgnai b3 _ _ => rowOpcode 0 b3 5
  | .sgnsi b3 _ _ => rowOpcode 0 b3 6
  | .sgnni b3 _ _ => rowOpcode 0 b3 7
  | .movm b3 _ _ => rowOpcode 1 b3 0
  | .mova b3 _ _ => rowOpcode 1 b3 1
  | .movs b3 _ _ => rowOpcode 1 b3 2
  | .movn b3 _ _ => rowOpcode 1 b3 3
  | .movmi b3 _ _ => rowOpcode 1 b3 4
  | .movai b3 _ _ => rowOpcode 1 b3 5
  | .movsi b3 _ _ => rowOpcode 1 b3 6
  | .movni b3 _ _ => rowOpcode 1 b3 7
  | .addm b3 _ _ => rowOpcode 2 b3 0
  | .adda b3 _ _ => rowOpcode 2 b3 1
  | .adds b3 _ _ => rowOpcode 2 b3 2
  | .addn b3 _ _ => rowOpcode 2 b3 3
  | .addmi b3 _ _ => rowOpcode 2 b3 4
  | .addai b3 _ _ => rowOpcode 2 b3 5
  | .addsi b3 _ _ => rowOpcode 2 b3 6
  | .addni b3 _ _ => rowOpcode 2 b3 7
  | .subm b3 _ _ => rowOpcode 3 b3 0
  | .suba b3 _ _ => rowOpcode 3 b3 1
  | .subs b3 _ _ => rowOpcode 3 b3 2
  | .subn b3 _ _ => rowOpcode 3 b3 3
  | .submi b3 _ _ => rowOpcode 3 b3 4
  | .subai b3 _ _ => rowOpcode 3 b3 5
  | .subsi b3 _ _ => rowOpcode 3 b3 6
  | .subni b3 _ _ => rowOpcode 3 b3 7
  | .hlt _ _ => 0xFF
  | .jmp _ _ => 0xFE
  | .jmpb _ _ => 0xF4
  | .jz _ _ => 0xF0
  | .jp _ _ => 0xF1
  | .nopfF2 _ _ => 0xF2
  | .nopfF3 _ _ => 0xF3
  | .nopfF5 _ _ => 0xF5
  | .nopfF6 _ _ => 0xF6
  | .nopfF7 _ _ => 0xF7
  | .nopfF8 _ _ => 0xF8
  | .nopfF9 _ _ => 0xF9
  | .nopfFA _ _ => 0xFA
  | .nopfFB _ _ => 0xFB
  | .nopfFC _ _ => 0xFC
  | .nopfFD _ _ => 0xFD
  | .rsv4 low _ _ => nibblesOpcode 0x4 low
  | .rsv5 low _ _ => nibblesOpcode 0x5 low
  | .rsv6 low _ _ => nibblesOpcode 0x6 low
  | .rsv7 low _ _ => nibblesOpcode 0x7 low
  | .rsv8 low _ _ => nibblesOpcode 0x8 low
  | .rsv9 low _ _ => nibblesOpcode 0x9 low
  | .rsvA low _ _ => nibblesOpcode 0xA low
  | .rsvB low _ _ => nibblesOpcode 0xB low
  | .rsvC low _ _ => nibblesOpcode 0xC low
  | .rsvD low _ _ => nibblesOpcode 0xD low
  | .rsvE low _ _ => nibblesOpcode 0xE low

/-- The second byte of an instruction, rawHighByte (R91). -/
def Instr.highByte : Instr → Byte
  | .sgnm _ ah _ => ah
  | .sgna _ ah _ => ah
  | .sgns _ ah _ => ah
  | .sgnn _ ah _ => ah
  | .sgnmi _ ah _ => ah
  | .sgnai _ ah _ => ah
  | .sgnsi _ ah _ => ah
  | .sgnni _ ah _ => ah
  | .movm _ ah _ => ah
  | .mova _ ah _ => ah
  | .movs _ ah _ => ah
  | .movn _ ah _ => ah
  | .movmi _ ah _ => ah
  | .movai _ ah _ => ah
  | .movsi _ ah _ => ah
  | .movni _ ah _ => ah
  | .addm _ ah _ => ah
  | .adda _ ah _ => ah
  | .adds _ ah _ => ah
  | .addn _ ah _ => ah
  | .addmi _ ah _ => ah
  | .addai _ ah _ => ah
  | .addsi _ ah _ => ah
  | .addni _ ah _ => ah
  | .subm _ ah _ => ah
  | .suba _ ah _ => ah
  | .subs _ ah _ => ah
  | .subn _ ah _ => ah
  | .submi _ ah _ => ah
  | .subai _ ah _ => ah
  | .subsi _ ah _ => ah
  | .subni _ ah _ => ah
  | .hlt ah _ => ah
  | .jmp ah _ => ah
  | .jmpb ah _ => ah
  | .jz ah _ => ah
  | .jp ah _ => ah
  | .nopfF2 ah _ => ah
  | .nopfF3 ah _ => ah
  | .nopfF5 ah _ => ah
  | .nopfF6 ah _ => ah
  | .nopfF7 ah _ => ah
  | .nopfF8 ah _ => ah
  | .nopfF9 ah _ => ah
  | .nopfFA ah _ => ah
  | .nopfFB ah _ => ah
  | .nopfFC ah _ => ah
  | .nopfFD ah _ => ah
  | .rsv4 _ ah _ => ah
  | .rsv5 _ ah _ => ah
  | .rsv6 _ ah _ => ah
  | .rsv7 _ ah _ => ah
  | .rsv8 _ ah _ => ah
  | .rsv9 _ ah _ => ah
  | .rsvA _ ah _ => ah
  | .rsvB _ ah _ => ah
  | .rsvC _ ah _ => ah
  | .rsvD _ ah _ => ah
  | .rsvE _ ah _ => ah

/-- The third byte of an instruction, rawLowByte (R91). -/
def Instr.lowByte : Instr → Byte
  | .sgnm _ _ al => al
  | .sgna _ _ al => al
  | .sgns _ _ al => al
  | .sgnn _ _ al => al
  | .sgnmi _ _ al => al
  | .sgnai _ _ al => al
  | .sgnsi _ _ al => al
  | .sgnni _ _ al => al
  | .movm _ _ al => al
  | .mova _ _ al => al
  | .movs _ _ al => al
  | .movn _ _ al => al
  | .movmi _ _ al => al
  | .movai _ _ al => al
  | .movsi _ _ al => al
  | .movni _ _ al => al
  | .addm _ _ al => al
  | .adda _ _ al => al
  | .adds _ _ al => al
  | .addn _ _ al => al
  | .addmi _ _ al => al
  | .addai _ _ al => al
  | .addsi _ _ al => al
  | .addni _ _ al => al
  | .subm _ _ al => al
  | .suba _ _ al => al
  | .subs _ _ al => al
  | .subn _ _ al => al
  | .submi _ _ al => al
  | .subai _ _ al => al
  | .subsi _ _ al => al
  | .subni _ _ al => al
  | .hlt _ al => al
  | .jmp _ al => al
  | .jmpb _ al => al
  | .jz _ al => al
  | .jp _ al => al
  | .nopfF2 _ al => al
  | .nopfF3 _ al => al
  | .nopfF5 _ al => al
  | .nopfF6 _ al => al
  | .nopfF7 _ al => al
  | .nopfF8 _ al => al
  | .nopfF9 _ al => al
  | .nopfFA _ al => al
  | .nopfFB _ al => al
  | .nopfFC _ al => al
  | .nopfFD _ al => al
  | .rsv4 _ _ al => al
  | .rsv5 _ _ al => al
  | .rsv6 _ _ al => al
  | .rsv7 _ _ al => al
  | .rsv8 _ _ al => al
  | .rsv9 _ _ al => al
  | .rsvA _ _ al => al
  | .rsvB _ _ al => al
  | .rsvC _ _ al => al
  | .rsvD _ _ al => al
  | .rsvE _ _ al => al

/-- The bytes of an instruction, the opcode first (R91). -/
def encode (i : Instr) : List Byte := [i.opcode, i.highByte, i.lowByte]

/-- The 24-bit word of an instruction as opcode_table.json writes it: `(OP << 16) + (AH << 8) + AL` (R91). -/
def encodeWord (i : Instr) : BitVec 24 := i.opcode ++ (i.highByte ++ i.lowByte : BitVec 16)

end Sys2Proof
end

