-- ==== Sys2Proof/Machine/State.lean ====
section
/-! DEFINITION. Machine/State.lean: every piece of state the spec gives the machine (10_state.md), as plain data, and its
reset value (R40, R331). -/

namespace Sys2Proof.Machine

/-- The memory (10_state.md R35, 20_memory.md R60): the cells that differ from what an unwritten cell reads as
(`Config.resetByte`), addresses strictly rising. -/
abbrev Memory : Type := List Host.Cell

/-- The raw values `W[0]` to `W[10]` of the control wires (R26, R32). -/
structure Wires where
  /-- run -/
  w0 : Bool
  /-- latch ALU result to AX -/
  w1 : Bool
  /-- latch to SI -/
  w2 : Bool
  /-- clear-before-latch-SI -/
  w3 : Bool
  /-- operand is immediate address (not memory-indirect) -/
  w4 : Bool
  /-- write-back ALU result to memory -/
  w5 : Bool
  /-- ALU-function-selection enabled -/
  w6 : Bool
  /-- jump taken -/
  w7 : Bool
  /-- the positive flag: the last latched result was greater than 0 (R33) -/
  w8 : Bool
  /-- the zero flag: the last latched result was 0 (R33) -/
  w9 : Bool
  /-- no gate, no writer, no reader (R31) -/
  w10 : Bool
  deriving DecidableEq, Repr

/-- The phase of the control state machine (R36, 40 R120). Between cycles it is `fetch`, `halt` or `fault`. -/
inductive Phase where
  | fetch
  | decode
  | checkRun
  | execute
  /-- terminal: the normal end of a run (R133) -/
  | halt
  /-- terminal: InvalidAluSelector was raised (60 R302) -/
  | fault
  deriving DecidableEq, Repr

/-- The state of the CORE. -/
structure State where
  /-- the accumulator (R21) -/
  ax : Word
  /-- the index register (R22) -/
  si : Word
  /-- the instruction pointer (R23) -/
  ip : Word
  /-- the raw control wires (R26) -/
  wires : Wires
  /-- the configuration gates, constant for a run (R30) -/
  gates : Gates
  /-- the memory (R35) -/
  mem : Memory
  /-- the phase (R36) -/
  phase : Phase
  /-- latch of the opcode byte (R37) -/
  op : Byte
  /-- latch of rawHighByte (R37) -/
  ah : Byte
  /-- latch of rawLowByte (R37) -/
  al : Byte
  /-- latch of the effective operand address (R37) -/
  ea : Word
  deriving DecidableEq, Repr

/-- Why `step` has no next state. No instruction's meaning answers with one of these: the machine's own fault
InvalidAluSelector is a next state with phase `fault` (60 R302). -/
inductive Fault where
  /-- Raised by `step` alone, in phase `halt`: HALT is terminal, the machine takes no further step (R38). Safe. -/
  | halted
  /-- Raised by `step` alone, in phase `fault`: FAULT is terminal, the machine takes no further step (R38). Safe. -/
  | faulted
  deriving DecidableEq, Repr

/-- Why the model has no meaning for an instruction. -/
inductive Refusal where
  /-- Raised by an arm of `exec` whose instruction has no meaning yet; no arm of this model does. Safe. -/
  | notModelled (mnemonic : String)
  deriving DecidableEq, Repr

/-- All eleven raw wires false: the spec's decision D2 (R40; notes/assumptions/5.md). -/
def Wires.reset : Wires :=
  { w0 := false, w1 := false, w2 := false, w3 := false, w4 := false, w5 := false,
    w6 := false, w7 := false, w8 := false, w9 := false, w10 := false }

/-- The machine right after reset, before the host configures and loads it (R40, R330, R331). The latches have no reset
value in the spec (R37); theirs is a DESIGN CHOICE (notes/assumptions/7.md). -/
def State.reset : State :=
  { ax := 0, si := 0, ip := 0, wires := Wires.reset, gates := Config.allEnabled, mem := [], phase := .fetch,
    op := 0, ah := 0, al := 0, ea := 0 }

end Sys2Proof.Machine
end

