-- ==== Sys2Proof/Machine/Memory.lean ====
section
/-! DEFINITION. Machine/Memory.lean: the memory bank (20_memory.md R60 to R70, R80): reduction of addresses, byte order, the
four access primitives and the loader's bulk write. -/

namespace Sys2Proof.Machine

/-- `mod65536`: the remainder on division by 65536, also of a negative number (00_scope.md R9). -/
def mod65536 (x : Int) : Word := BitVec.ofInt 16 x

/-- `v.high`, bits 15 to 8 (R10). -/
def highHalf (v : Word) : Byte := v.extractLsb' 8 8

/-- `v.low`, bits 7 to 0 (R10). -/
def lowHalf (v : Word) : Byte := v.extractLsb' 0 8

/-- The 16-bit value `(hi << 8) + lo` (R10). -/
def ofHalves (hi lo : Byte) : Word := hi ++ lo

/-- The byte in cell `a` (an address below 65536); a cell that is not listed reads as `Config.resetByte`. -/
def Memory.cell : Memory → Nat → Byte
  | [], _ => Config.resetByte
  | (b, v) :: rest, a => if b = a then v else Memory.cell rest a

/-- Cell `a` set to `v`, the canonical form kept: a cell that again reads as an unlisted one is taken out. -/
def Memory.setCell : Memory → Nat → Byte → Memory
  | [], a, v => if v = Config.resetByte then [] else [(a, v)]
  | (b, w) :: rest, a, v =>
    if a < b then (if v = Config.resetByte then (b, w) :: rest else (a, v) :: (b, w) :: rest)
    else if a = b then (if v = Config.resetByte then rest else (a, v) :: rest)
    else (b, w) :: Memory.setCell rest a v

/-- The canonical form from address `lo` up: addresses strictly rising, at least `lo` and below 65536, no listed cell equal to
what an unlisted one reads as. -/
def Memory.wfFrom : Nat → Memory → Bool
  | _, [] => true
  | lo, (b, v) :: rest =>
    decide (lo ≤ b) && decide (b < Config.memSize) && decide (v ≠ Config.resetByte) && Memory.wfFrom (b + 1) rest

/-- The canonical form. -/
def Memory.wf (m : Memory) : Bool := Memory.wfFrom 0 m

/-- `MemRead(a, 1)` for any integer `a` (R62). -/
def memRead1 (m : Memory) (a : Int) : Byte := Memory.cell m (mod65536 a).toNat

/-- `MemRead(a, 2)` for any integer `a`: the byte at `a` is the high half (R63; the spec's decision D1). -/
def memRead2 (m : Memory) (a : Int) : Word := ofHalves (memRead1 m a) (memRead1 m (a + 1))

/-- `MemWrite(a, 1, b)` for any integer `a` (R64). -/
def memWrite1 (m : Memory) (a : Int) (b : Byte) : Memory := Memory.setCell m (mod65536 a).toNat b

/-- `MemWrite(a, 2, v)` for any integer `a`: the high half goes to `a` (R65; D1), in ascending order (R76; D5). -/
def memWrite2 (m : Memory) (a : Int) (v : Word) : Memory :=
  memWrite1 (memWrite1 m a (highHalf v)) (a + 1) (lowHalf v)

/-- `bulk-load(offset, bytes)` (R80): `MEM[offset + k] <- bytes[k]`. The host uses it before the first cycle only. -/
def bulkLoad (m : Memory) (offset : Nat) : List Byte → Memory
  | [] => m
  | b :: bytes => bulkLoad (memWrite1 m offset b) (offset + 1) bytes

end Sys2Proof.Machine
end

