-- ==== Sys2Proof/Machine/Flags.lean ====
section
/-! DEFINITION. Machine/Flags.lean: effective wires, the two flags and the flag-dependent negation (10_state.md R29, R33;
40_cycle_and_control_wires.md R138, R141). -/

namespace Sys2Proof.Machine

/-- `W[i]`. -/
def Wires.raw (w : Wires) : Fin 11 → Bool
  | 0 => w.w0
  | 1 => w.w1
  | 2 => w.w2
  | 3 => w.w3
  | 4 => w.w4
  | 5 => w.w5
  | 6 => w.w6
  | 7 => w.w7
  | 8 => w.w8
  | 9 => w.w9
  | 10 => w.w10

/-- The gate of wire `i`; wire 10 has none and is cut for good (R29, R31). -/
def gateOf (g : Gates) : Fin 11 → Bool
  | 0 => g.g0
  | 1 => g.g1
  | 2 => g.g2
  | 3 => g.g3
  | 4 => g.g4
  | 5 => g.g5
  | 6 => g.g6
  | 7 => g.g7
  | 8 => g.g8
  | 9 => g.g9
  | 10 => false

/-- `E(i)`, the effective value of wire `i`: raw AND gate, and false for wire 10 (R29). -/
def State.eff (s : State) (i : Fin 11) : Bool := s.wires.raw i && gateOf s.gates i

/-- The positive flag of a result: `result > 0`, unsigned (R33, R138; the spec's decision D8). -/
def positiveFlag (result : Word) : Bool := decide (result.toNat > 0)

/-- The zero flag of a result: `result == 0` (R33, R138). -/
def zeroFlag (result : Word) : Bool := decide (result.toNat = 0)

/-- `neg16(x) = mod65536(0 - x)` (00_scope.md R13). -/
def neg16 (x : Word) : Word := mod65536 (0 - (x.toNat : Int))

/-- `signAdjust(x)`: `x` when `E(8)` or `E(9)`, else its negation (R141). The flags are explicit parameters (80 R362). -/
def signAdjust (e8 e9 : Bool) (x : Word) : Word := if e8 || e9 then x else neg16 x

end Sys2Proof.Machine
end

