-- ==== Sys2Proof/Machine/Operands.lean ====
section
/-! DEFINITION. Machine/Operands.lean: the effective operand address and the two operand forms (40_cycle_and_control_wires.md
R122, R134, R135; 30_encoding.md R94, R95). -/

namespace Sys2Proof.Machine

/-- `EA = mod65536(((AH + SI.high) << 8) + AL + SI.low)`, over the unbounded integers with one reduction (R122; the spec's
decision D9). -/
def effectiveAddress (ah al : Byte) (si : Word) : Word :=
  mod65536 ((((ah.toNat + (highHalf si).toNat) <<< 8) + al.toNat + (lowHalf si).toNat : Nat) : Int)

/-- EXECUTE step 1: `first` is AX (R134). -/
def State.first (s : State) : Word := s.ax

/-- EXECUTE step 2: `second` is the operand address itself when `E(4)`, else the 16-bit value in memory there (R135). -/
def State.second (s : State) : Word := if s.eff 4 then s.ea else memRead2 s.mem s.ea.toNat

end Sys2Proof.Machine
end

