-- ==== Sys2Proof/Machine/Alu.lean ====
section
/-! DEFINITION. Machine/Alu.lean: the 5-way ALU (40_cycle_and_control_wires.md R141 to R149). -/

namespace Sys2Proof.Machine

/-- The ALU's functions, by the source's names (30_encoding.md R96, 80 R362). -/
inductive AluFunction where
  | signAdjust
  | move
  | add
  | subtract
  | zero
  deriving DecidableEq, Repr

/-- The function of a selector; the selectors 4 to 0xE have none (R143 to R148). -/
def aluFunction (sel : BitVec 4) : Option AluFunction :=
  if sel = 0x0 then some .signAdjust
  else if sel = 0x1 then some .move
  else if sel = 0x2 then some .add
  else if sel = 0x3 then some .subtract
  else if sel = 0xF then some .zero
  else none

/-- The result of a function, masked to 16 bits (R136, R143 to R147). -/
def aluResult (e8 e9 : Bool) (first second : Word) : AluFunction → Word
  | .signAdjust => signAdjust e8 e9 first
  | .move => second
  | .add => mod65536 (((signAdjust e8 e9 first).toNat : Int) + second.toNat)
  | .subtract => mod65536 (((signAdjust e8 e9 first).toNat : Int) - second.toNat)
  | .zero => 0

/-- The ALU: a result, or none where it raises InvalidAluSelector (R136, R148). -/
def alu (e8 e9 : Bool) (sel : BitVec 4) (first second : Word) : Option Word :=
  (aluFunction sel).map (aluResult e8 e9 first second)

end Sys2Proof.Machine
end

