-- ==== Sys2Proof/Machine/Wires.lean ====
section
/-! DEFINITION. Machine/Wires.lean: the instruction decoder of the hardware, from an opcode byte to the raw wires 0 to 7
(40_cycle_and_control_wires.md R123 to R132). -/

namespace Sys2Proof.Machine

/-- `op4`, the high nibble of the opcode (R92, R123). -/
def op4 (op : Byte) : BitVec 4 := op.extractLsb' 4 4

/-- `i`: bit 2 of the opcode, and 0 in row F (R93, R123). -/
def fieldI (op : Byte) : Nat := if op4 op = 0xF then 0 else (op.extractLsb' 2 1).toNat

/-- `p`: the low two bits of the opcode, and the sentinel 4 in row F (R93, R123). -/
def fieldP (op : Byte) : Nat := if op4 op = 0xF then 4 else (op.extractLsb' 0 2).toNat

/-- The raw wires after DECODE of `op`, with `e8`, `e9` the effective flags at decode time (R124 to R131; wire 6 by the
spec's decision D6). Wires 8, 9 and 10 keep their values (R132). -/
def decodeWires (op : Byte) (e8 e9 : Bool) (w : Wires) : Wires :=
  { w with
    w0 := decide (op ≠ 0xFF)
    w1 := decide (fieldP op = 1)
    w2 := true
    w3 := decide (fieldP op ≠ 2)
    w4 := decide (fieldI op = 1)
    w5 := decide (fieldP op = 0)
    w6 := true
    w7 := decide (op = 0xFE) || (decide (op = 0xF0) && e9) || decide (op = 0xF4) || (decide (op = 0xF1) && e8) }

end Sys2Proof.Machine
end

