-- ==== Sys2Proof/Machine/Ops.lean ====
section
/-! DEFINITION. Machine/Ops.lean: the named operations on the state, the phases of the cycle and the cycle itself
(40_cycle_and_control_wires.md R120 to R151). Raising InvalidAluSelector is `State.enterFault`; there is no return from it
(60_exceptions.md R306, R307). -/

namespace Sys2Proof.Machine

/-- FETCH, the latches: the three bytes of the instruction word and the effective operand address (R121). Goes on to
DECODE (R120). -/
def State.latchWord (op ah al : Byte) (s : State) : State :=
  { s with op := op, ah := ah, al := al, ea := effectiveAddress ah al s.si, phase := .decode }

/-- FETCH: the word is read at IP, IP + 1 and IP + 2 (R121, R70). -/
def State.fetchPhase (s : State) : State :=
  s.latchWord (memRead1 s.mem s.ip.toNat) (memRead1 s.mem (s.ip.toNat + 1)) (memRead1 s.mem (s.ip.toNat + 2))

/-- DECODE: writes the raw wires 0 to 7 from the latched opcode and the effective flags, and nothing else (R123 to R132). -/
def State.decodePhase (s : State) : State :=
  { s with wires := decodeWires s.op (s.eff 8) (s.eff 9) s.wires, phase := .checkRun }

/-- Entering HALT: changes nothing but the phase (R133). -/
def State.enterHalt (s : State) : State := { s with phase := .halt }

/-- Raising InvalidAluSelector: the machine enters the terminal phase FAULT; AX, SI, IP, the flags and the memory keep their
values, nothing is recorded, no control is transferred (60 R301, R302, R306; the spec's decision D4). -/
def State.enterFault (s : State) : State := { s with phase := .fault }

/-- CHECK-RUN: HALT when `E(0)` is false, else EXECUTE (R133). -/
def State.checkRunPhase (s : State) : State :=
  if s.eff 0 then { s with phase := .execute } else s.enterHalt

/-- The ALU's function selector: `op4` when `E(6)`, else 0 (R142). -/
def State.selector (s : State) : BitVec 4 := if s.eff 6 then op4 s.op else 0

/-- EXECUTE steps 1 to 3: the ALU's result, or none (R134 to R136). The flags are those left by earlier cycles (R141; the
spec's decision D16). -/
def State.result (s : State) : Option Word := alu (s.eff 8) (s.eff 9) s.selector s.first s.second

/-- EXECUTE step 4: write-back to memory when `E(5)` (R137). -/
def State.writeBack (result : Word) (s : State) : State :=
  if s.eff 5 then { s with mem := memWrite2 s.mem s.ea.toNat result } else s

/-- EXECUTE step 5: when `E(1)`, AX and the two raw flags take the result (R138). -/
def State.latchAx (result : Word) (s : State) : State :=
  if s.eff 1 then
    { s with ax := result, wires := { s.wires with w8 := positiveFlag result, w9 := zeroFlag result } }
  else s

/-- EXECUTE step 6: when `E(2)`, SI takes 0 if `E(3)` and the result if not (R139). -/
def State.latchSi (result : Word) (s : State) : State :=
  if s.eff 2 then { s with si := if s.eff 3 then 0 else result } else s

/-- EXECUTE step 7: IP takes the operand address when `E(7)`, else advances by 3; then back to FETCH (R140). -/
def State.nextIp (s : State) : State :=
  { s with ip := if s.eff 7 then s.ea else mod65536 ((s.ip.toNat : Int) + Config.instrBytes), phase := .fetch }

/-- EXECUTE steps 4 to 7, in this order (R137 to R140). -/
def State.commit (result : Word) (s : State) : State :=
  (((s.writeBack result).latchAx result).latchSi result).nextIp

/-- EXECUTE: steps 1 to 3, then steps 4 to 7, or the fault in between (R134 to R140, R148). -/
def State.executePhase (s : State) : State :=
  match s.result with
  | some r => s.commit r
  | none => s.enterFault

/-- The cycle from CHECK-RUN on (R133, R120). -/
def State.checkThenExecute (s : State) : State :=
  match s.checkRunPhase.phase with
  | .execute => s.checkRunPhase.executePhase
  | _ => s.checkRunPhase

/-- One whole cycle on the instruction word `op`, `ah`, `al`, as if FETCH had just read it (R150): the common meaning of
which every instruction is an instance. -/
def State.runWord (op ah al : Byte) (s : State) : State := (s.latchWord op ah al).decodePhase.checkThenExecute

/-- One transition of the control state machine (R120); none from a terminal phase (10_state.md R38). -/
def State.phaseStep (s : State) : Option State :=
  match s.phase with
  | .fetch => some s.fetchPhase
  | .decode => some s.decodePhase
  | .checkRun => some s.checkRunPhase
  | .execute => some s.executePhase
  | .halt => none
  | .fault => none

end Sys2Proof.Machine
end

