-- ==== Sys2Proof/Machine/Add.lean ====
section
/-! DEFINITION. Machine/Add.lean: the ADD family, opcode row 2 (43_add.md). Each meaning is the cycle
(40_cycle_and_control_wires.md R150) on the instruction's own word; with all gates enabled the ALU yields
`mod65536(signAdjust(AX) + second)`, and signAdjust(AX) when gate 6 is cut (R277). None of the eight can fault. -/

namespace Sys2Proof.Machine

/-- ADDM, 0x20 and 0x28 (R220): source memory; the result goes to memory at EA, SI is cleared; IP advances by 3. -/
def execAddm (b3 : Bool) (ah al : Byte) (s : State) : Host.Outcome State Fault Refusal :=
  .next (s.runWord (rowOpcode 2 b3 0) ah al)

/-- ADDA, 0x21 and 0x29 (R221): source memory; AX and the flags take the result, SI is cleared; IP advances by 3. -/
def execAdda (b3 : Bool) (ah al : Byte) (s : State) : Host.Outcome State Fault Refusal :=
  .next (s.runWord (rowOpcode 2 b3 1) ah al)

/-- ADDS, 0x22 and 0x2A (R222): source memory; SI takes the result; IP advances by 3. -/
def execAdds (b3 : Bool) (ah al : Byte) (s : State) : Host.Outcome State Fault Refusal :=
  .next (s.runWord (rowOpcode 2 b3 2) ah al)

/-- ADDN, 0x23 and 0x2B (R223): source memory; the result is discarded, SI is cleared; IP advances by 3. -/
def execAddn (b3 : Bool) (ah al : Byte) (s : State) : Host.Outcome State Fault Refusal :=
  .next (s.runWord (rowOpcode 2 b3 3) ah al)

/-- ADDMI, 0x24 and 0x2C (R224): source immediate; the result goes to memory at EA, SI is cleared; IP advances by 3. -/
def execAddmi (b3 : Bool) (ah al : Byte) (s : State) : Host.Outcome State Fault Refusal :=
  .next (s.runWord (rowOpcode 2 b3 4) ah al)

/-- ADDAI, 0x25 and 0x2D (R225): source immediate; AX and the flags take the result, SI is cleared; IP advances by 3. -/
def execAddai (b3 : Bool) (ah al : Byte) (s : State) : Host.Outcome State Fault Refusal :=
  .next (s.runWord (rowOpcode 2 b3 5) ah al)

/-- ADDSI, 0x26 and 0x2E (R226): source immediate; SI takes the result; IP advances by 3. -/
def execAddsi (b3 : Bool) (ah al : Byte) (s : State) : Host.Outcome State Fault Refusal :=
  .next (s.runWord (rowOpcode 2 b3 6) ah al)

/-- ADDNI, 0x27 and 0x2F (R227): source immediate; the result is discarded, SI is cleared; IP advances by 3. -/
def execAddni (b3 : Bool) (ah al : Byte) (s : State) : Host.Outcome State Fault Refusal :=
  .next (s.runWord (rowOpcode 2 b3 7) ah al)

end Sys2Proof.Machine
end

