-- ==== Sys2Proof/Machine/Control.lean ====
section
/-! DEFINITION. Machine/Control.lean: the control family, opcode row F (45_control.md R240 to R248). Each meaning is the cycle
(40_cycle_and_control_wires.md R150) on the instruction's own word. With all gates enabled each of them but HLT clears SI
and writes neither AX nor the flags nor memory (R246). -/

namespace Sys2Proof.Machine

/-- HLT, 0xFF (R240): the machine halts in CHECK-RUN under every configuration; nothing but the phase, the latches and W[0..7] changes. -/
def execHlt (ah al : Byte) (s : State) : Host.Outcome State Fault Refusal :=
  .next (s.runWord 0xFF ah al)

/-- JMP, 0xFE (R241): IP takes EA when gate 7 is enabled. -/
def execJmp (ah al : Byte) (s : State) : Host.Outcome State Fault Refusal :=
  .next (s.runWord 0xFE ah al)

/-- JMPB, 0xF4 (R242): as JMP, a second encoding. -/
def execJmpb (ah al : Byte) (s : State) : Host.Outcome State Fault Refusal :=
  .next (s.runWord 0xF4 ah al)

/-- JZ, 0xF0 (R243): IP takes EA when the zero flag is effective. -/
def execJz (ah al : Byte) (s : State) : Host.Outcome State Fault Refusal :=
  .next (s.runWord 0xF0 ah al)

/-- JP, 0xF1 (R244): IP takes EA when the positive flag is effective. -/
def execJp (ah al : Byte) (s : State) : Host.Outcome State Fault Refusal :=
  .next (s.runWord 0xF1 ah al)

/-- NOPF, 0xF2 (R245): SI is cleared, IP advances by 3. -/
def execNopfF2 (ah al : Byte) (s : State) : Host.Outcome State Fault Refusal :=
  .next (s.runWord 0xF2 ah al)

/-- NOPF, 0xF3 (R245): SI is cleared, IP advances by 3. -/
def execNopfF3 (ah al : Byte) (s : State) : Host.Outcome State Fault Refusal :=
  .next (s.runWord 0xF3 ah al)

/-- NOPF, 0xF5 (R245): SI is cleared, IP advances by 3. -/
def execNopfF5 (ah al : Byte) (s : State) : Host.Outcome State Fault Refusal :=
  .next (s.runWord 0xF5 ah al)

/-- NOPF, 0xF6 (R245): SI is cleared, IP advances by 3. -/
def execNopfF6 (ah al : Byte) (s : State) : Host.Outcome State Fault Refusal :=
  .next (s.runWord 0xF6 ah al)

/-- NOPF, 0xF7 (R245): SI is cleared, IP advances by 3. -/
def execNopfF7 (ah al : Byte) (s : State) : Host.Outcome State Fault Refusal :=
  .next (s.runWord 0xF7 ah al)

/-- NOPF, 0xF8 (R245): SI is cleared, IP advances by 3. -/
def execNopfF8 (ah al : Byte) (s : State) : Host.Outcome State Fault Refusal :=
  .next (s.runWord 0xF8 ah al)

/-- NOPF, 0xF9 (R245): SI is cleared, IP advances by 3. -/
def execNopfF9 (ah al : Byte) (s : State) : Host.Outcome State Fault Refusal :=
  .next (s.runWord 0xF9 ah al)

/-- NOPF, 0xFA (R245): SI is cleared, IP advances by 3. -/
def execNopfFA (ah al : Byte) (s : State) : Host.Outcome State Fault Refusal :=
  .next (s.runWord 0xFA ah al)

/-- NOPF, 0xFB (R245): SI is cleared, IP advances by 3. -/
def execNopfFB (ah al : Byte) (s : State) : Host.Outcome State Fault Refusal :=
  .next (s.runWord 0xFB ah al)

/-- NOPF, 0xFC (R245): SI is cleared, IP advances by 3. -/
def execNopfFC (ah al : Byte) (s : State) : Host.Outcome State Fault Refusal :=
  .next (s.runWord 0xFC ah al)

/-- NOPF, 0xFD (R245): SI is cleared, IP advances by 3. -/
def execNopfFD (ah al : Byte) (s : State) : Host.Outcome State Fault Refusal :=
  .next (s.runWord 0xFD ah al)

end Sys2Proof.Machine
end

