-- ==== Sys2Proof/Machine/Mov.lean ====
section
/-! DEFINITION. Machine/Mov.lean: the MOV family, opcode row 1 (42_mov.md). Each meaning is the cycle
(40_cycle_and_control_wires.md R150) on the instruction's own word; with all gates enabled the ALU yields
`second`, and signAdjust(AX) when gate 6 is cut (R277). None of the eight can fault. -/

namespace Sys2Proof.Machine

/-- MOVM, 0x10 and 0x18 (R210): source memory; the result goes to memory at EA, SI is cleared; IP advances by 3. -/
def execMovm (b3 : Bool) (ah al : Byte) (s : State) : Host.Outcome State Fault Refusal :=
  .next (s.runWord (rowOpcode 1 b3 0) ah al)

/-- MOVA, 0x11 and 0x19 (R211): source memory; AX and the flags take the result, SI is cleared; IP advances by 3. -/
def execMova (b3 : Bool) (ah al : Byte) (s : State) : Host.Outcome State Fault Refusal :=
  .next (s.runWord (rowOpcode 1 b3 1) ah al)

/-- MOVS, 0x12 and 0x1A (R212): source memory; SI takes the result; IP advances by 3. -/
def execMovs (b3 : Bool) (ah al : Byte) (s : State) : Host.Outcome State Fault Refusal :=
  .next (s.runWord (rowOpcode 1 b3 2) ah al)

/-- MOVN, 0x13 and 0x1B (R213): source memory; the result is discarded, SI is cleared; IP advances by 3. -/
def execMovn (b3 : Bool) (ah al : Byte) (s : State) : Host.Outcome State Fault Refusal :=
  .next (s.runWord (rowOpcode 1 b3 3) ah al)

/-- MOVMI, 0x14 and 0x1C (R214): source immediate; the result goes to memory at EA, SI is cleared; IP advances by 3. -/
def execMovmi (b3 : Bool) (ah al : Byte) (s : State) : Host.Outcome State Fault Refusal :=
  .next (s.runWord (rowOpcode 1 b3 4) ah al)

/-- MOVAI, 0x15 and 0x1D (R215): source immediate; AX and the flags take the result, SI is cleared; IP advances by 3. -/
def execMovai (b3 : Bool) (ah al : Byte) (s : State) : Host.Outcome State Fault Refusal :=
  .next (s.runWord (rowOpcode 1 b3 5) ah al)

/-- MOVSI, 0x16 and 0x1E (R216): source immediate; SI takes the result; IP advances by 3. -/
def execMovsi (b3 : Bool) (ah al : Byte) (s : State) : Host.Outcome State Fault Refusal :=
  .next (s.runWord (rowOpcode 1 b3 6) ah al)

/-- MOVNI, 0x17 and 0x1F (R217): source immediate; the result is discarded, SI is cleared; IP advances by 3. -/
def execMovni (b3 : Bool) (ah al : Byte) (s : State) : Host.Outcome State Fault Refusal :=
  .next (s.runWord (rowOpcode 1 b3 7) ah al)

end Sys2Proof.Machine
end

