-- ==== Sys2Proof/Machine/Reserved.lean ====
section
/-! DEFINITION. Machine/Reserved.lean: the reserved opcodes, rows 4 to E (46_reserved_opcodes.md R260 to R263). Each meaning is
the cycle (40_cycle_and_control_wires.md R150) on the instruction's own word: with gates 0 and 6 enabled it enters FAULT
(InvalidAluSelector, R260), with gate 6 cut it does what the SGN instruction of the same low three bits does (R261), with
gate 0 cut it halts (R262). -/

namespace Sys2Proof.Machine

/-- RSV4, 0x40 to 0x4F (R260, R261, R262): selector 0x4 has no ALU function. -/
def execRsv4 (low : BitVec 4) (ah al : Byte) (s : State) : Host.Outcome State Fault Refusal :=
  .next (s.runWord (nibblesOpcode 0x4 low) ah al)

/-- RSV5, 0x50 to 0x5F (R260, R261, R262): selector 0x5 has no ALU function. -/
def execRsv5 (low : BitVec 4) (ah al : Byte) (s : State) : Host.Outcome State Fault Refusal :=
  .next (s.runWord (nibblesOpcode 0x5 low) ah al)

/-- RSV6, 0x60 to 0x6F (R260, R261, R262): selector 0x6 has no ALU function. -/
def execRsv6 (low : BitVec 4) (ah al : Byte) (s : State) : Host.Outcome State Fault Refusal :=
  .next (s.runWord (nibblesOpcode 0x6 low) ah al)

/-- RSV7, 0x70 to 0x7F (R260, R261, R262): selector 0x7 has no ALU function. -/
def execRsv7 (low : BitVec 4) (ah al : Byte) (s : State) : Host.Outcome State Fault Refusal :=
  .next (s.runWord (nibblesOpcode 0x7 low) ah al)

/-- RSV8, 0x80 to 0x8F (R260, R261, R262): selector 0x8 has no ALU function. -/
def execRsv8 (low : BitVec 4) (ah al : Byte) (s : State) : Host.Outcome State Fault Refusal :=
  .next (s.runWord (nibblesOpcode 0x8 low) ah al)

/-- RSV9, 0x90 to 0x9F (R260, R261, R262): selector 0x9 has no ALU function. -/
def execRsv9 (low : BitVec 4) (ah al : Byte) (s : State) : Host.Outcome State Fault Refusal :=
  .next (s.runWord (nibblesOpcode 0x9 low) ah al)

/-- RSVA, 0xA0 to 0xAF (R260, R261, R262): selector 0xA has no ALU function. -/
def execRsvA (low : BitVec 4) (ah al : Byte) (s : State) : Host.Outcome State Fault Refusal :=
  .next (s.runWord (nibblesOpcode 0xA low) ah al)

/-- RSVB, 0xB0 to 0xBF (R260, R261, R262): selector 0xB has no ALU function. -/
def execRsvB (low : BitVec 4) (ah al : Byte) (s : State) : Host.Outcome State Fault Refusal :=
  .next (s.runWord (nibblesOpcode 0xB low) ah al)

/-- RSVC, 0xC0 to 0xCF (R260, R261, R262): selector 0xC has no ALU function. -/
def execRsvC (low : BitVec 4) (ah al : Byte) (s : State) : Host.Outcome State Fault Refusal :=
  .next (s.runWord (nibblesOpcode 0xC low) ah al)

/-- RSVD, 0xD0 to 0xDF (R260, R261, R262): selector 0xD has no ALU function. -/
def execRsvD (low : BitVec 4) (ah al : Byte) (s : State) : Host.Outcome State Fault Refusal :=
  .next (s.runWord (nibblesOpcode 0xD low) ah al)

/-- RSVE, 0xE0 to 0xEF (R260, R261, R262): selector 0xE has no ALU function. -/
def execRsvE (low : BitVec 4) (ah al : Byte) (s : State) : Host.Outcome State Fault Refusal :=
  .next (s.runWord (nibblesOpcode 0xE low) ah al)

end Sys2Proof.Machine
end

