-- ==== Sys2Proof/Machine/Sgn.lean ====
section
/-! DEFINITION. Machine/Sgn.lean: the SGN family, opcode row 0 (41_sgn.md). Each meaning is the cycle
(40_cycle_and_control_wires.md R150) on the instruction's own word; with all gates enabled the ALU yields
`signAdjust(AX)`. None of the eight can fault. -/

namespace Sys2Proof.Machine

/-- SGNM, 0x00 and 0x08 (R200): source memory; the result goes to memory at EA, SI is cleared; IP advances by 3. -/
def execSgnm (b3 : Bool) (ah al : Byte) (s : State) : Host.Outcome State Fault Refusal :=
  .next (s.runWord (rowOpcode 0 b3 0) ah al)

/-- SGNA, 0x01 and 0x09 (R201): source memory; AX and the flags take the result, SI is cleared; IP advances by 3. -/
def execSgna (b3 : Bool) (ah al : Byte) (s : State) : Host.Outcome State Fault Refusal :=
  .next (s.runWord (rowOpcode 0 b3 1) ah al)

/-- SGNS, 0x02 and 0x0A (R202): source memory; SI takes the result; IP advances by 3. -/
def execSgns (b3 : Bool) (ah al : Byte) (s : State) : Host.Outcome State Fault Refusal :=
  .next (s.runWord (rowOpcode 0 b3 2) ah al)

/-- SGNN, 0x03 and 0x0B (R203): source memory; the result is discarded, SI is cleared; IP advances by 3. -/
def execSgnn (b3 : Bool) (ah al : Byte) (s : State) : Host.Outcome State Fault Refusal :=
  .next (s.runWord (rowOpcode 0 b3 3) ah al)

/-- SGNMI, 0x04 and 0x0C (R204): source immediate; the result goes to memory at EA, SI is cleared; IP advances by 3. -/
def execSgnmi (b3 : Bool) (ah al : Byte) (s : State) : Host.Outcome State Fault Refusal :=
  .next (s.runWord (rowOpcode 0 b3 4) ah al)

/-- SGNAI, 0x05 and 0x0D (R205): source immediate; AX and the flags take the result, SI is cleared; IP advances by 3. -/
def execSgnai (b3 : Bool) (ah al : Byte) (s : State) : Host.Outcome State Fault Refusal :=
  .next (s.runWord (rowOpcode 0 b3 5) ah al)

/-- SGNSI, 0x06 and 0x0E (R206): source immediate; SI takes the result; IP advances by 3. -/
def execSgnsi (b3 : Bool) (ah al : Byte) (s : State) : Host.Outcome State Fault Refusal :=
  .next (s.runWord (rowOpcode 0 b3 6) ah al)

/-- SGNNI, 0x07 and 0x0F (R207): source immediate; the result is discarded, SI is cleared; IP advances by 3. -/
def execSgnni (b3 : Bool) (ah al : Byte) (s : State) : Host.Outcome State Fault Refusal :=
  .next (s.runWord (rowOpcode 0 b3 7) ah al)

end Sys2Proof.Machine
end

