-- ==== Sys2Proof/Machine/Sub.lean ====
section
/-! DEFINITION. Machine/Sub.lean: the SUB family, opcode row 3 (44_sub.md). Each meaning is the cycle
(40_cycle_and_control_wires.md R150) on the instruction's own word; with all gates enabled the ALU yields
`mod65536(signAdjust(AX) - second)`, and signAdjust(AX) when gate 6 is cut (R277). None of the eight can fault. -/

namespace Sys2Proof.Machine

/-- SUBM, 0x30 and 0x38 (R230): source memory; the result goes to memory at EA, SI is cleared; IP advances by 3. -/
def execSubm (b3 : Bool) (ah al : Byte) (s : State) : Host.Outcome State Fault Refusal :=
  .next (s.runWord (rowOpcode 3 b3 0) ah al)

/-- SUBA, 0x31 and 0x39 (R231): source memory; AX and the flags take the result, SI is cleared; IP advances by 3. -/
def execSuba (b3 : Bool) (ah al : Byte) (s : State) : Host.Outcome State Fault Refusal :=
  .next (s.runWord (rowOpcode 3 b3 1) ah al)

/-- SUBS, 0x32 and 0x3A (R232): source memory; SI takes the result; IP advances by 3. -/
def execSubs (b3 : Bool) (ah al : Byte) (s : State) : Host.Outcome State Fault Refusal :=
  .next (s.runWord (rowOpcode 3 b3 2) ah al)

/-- SUBN, 0x33 and 0x3B (R233): source memory; the result is discarded, SI is cleared; IP advances by 3. -/
def execSubn (b3 : Bool) (ah al : Byte) (s : State) : Host.Outcome State Fault Refusal :=
  .next (s.runWord (rowOpcode 3 b3 3) ah al)

/-- SUBMI, 0x34 and 0x3C (R234): source immediate; the result goes to memory at EA, SI is cleared; IP advances by 3. -/
def execSubmi (b3 : Bool) (ah al : Byte) (s : State) : Host.Outcome State Fault Refusal :=
  .next (s.runWord (rowOpcode 3 b3 4) ah al)

/-- SUBAI, 0x35 and 0x3D (R235): source immediate; AX and the flags take the result, SI is cleared; IP advances by 3. -/
def execSubai (b3 : Bool) (ah al : Byte) (s : State) : Host.Outcome State Fault Refusal :=
  .next (s.runWord (rowOpcode 3 b3 5) ah al)

/-- SUBSI, 0x36 and 0x3E (R236): source immediate; SI takes the result; IP advances by 3. -/
def execSubsi (b3 : Bool) (ah al : Byte) (s : State) : Host.Outcome State Fault Refusal :=
  .next (s.runWord (rowOpcode 3 b3 6) ah al)

/-- SUBNI, 0x37 and 0x3F (R237): source immediate; the result is discarded, SI is cleared; IP advances by 3. -/
def execSubni (b3 : Bool) (ah al : Byte) (s : State) : Host.Outcome State Fault Refusal :=
  .next (s.runWord (rowOpcode 3 b3 7) ah al)

end Sys2Proof.Machine
end

