-- ==== Sys2Proof/Machine/Dispatch.lean ====
section
/-! DEFINITION. Machine/Dispatch.lean: one arm per constructor of `Instr`, each one call of its meaning. -/

namespace Sys2Proof.Machine

def exec (i : Instr) (s : State) : Host.Outcome State Fault Refusal :=
  match i with
  | .sgnm b3 ah al => Sys2Proof.Machine.execSgnm b3 ah al s
  | .sgna b3 ah al => Sys2Proof.Machine.execSgna b3 ah al s
  | .sgns b3 ah al => Sys2Proof.Machine.execSgns b3 ah al s
  | .sgnn b3 ah al => Sys2Proof.Machine.execSgnn b3 ah al s
  | .sgnmi b3 ah al => Sys2Proof.Machine.execSgnmi b3 ah al s
  | .sgnai b3 ah al => Sys2Proof.Machine.execSgnai b3 ah al s
  | .sgnsi b3 ah al => Sys2Proof.Machine.execSgnsi b3 ah al s
  | .sgnni b3 ah al => Sys2Proof.Machine.execSgnni b3 ah al s
  | .movm b3 ah al => Sys2Proof.Machine.execMovm b3 ah al s
  | .mova b3 ah al => Sys2Proof.Machine.execMova b3 ah al s
  | .movs b3 ah al => Sys2Proof.Machine.execMovs b3 ah al s
  | .movn b3 ah al => Sys2Proof.Machine.execMovn b3 ah al s
  | .movmi b3 ah al => Sys2Proof.Machine.execMovmi b3 ah al s
  | .movai b3 ah al => Sys2Proof.Machine.execMovai b3 ah al s
  | .movsi b3 ah al => Sys2Proof.Machine.execMovsi b3 ah al s
  | .movni b3 ah al => Sys2Proof.Machine.execMovni b3 ah al s
  | .addm b3 ah al => Sys2Proof.Machine.execAddm b3 ah al s
  | .adda b3 ah al => Sys2Proof.Machine.execAdda b3 ah al s
  | .adds b3 ah al => Sys2Proof.Machine.execAdds b3 ah al s
  | .addn b3 ah al => Sys2Proof.Machine.execAddn b3 ah al s
  | .addmi b3 ah al => Sys2Proof.Machine.execAddmi b3 ah al s
  | .addai b3 ah al => Sys2Proof.Machine.execAddai b3 ah al s
  | .addsi b3 ah al => Sys2Proof.Machine.execAddsi b3 ah al s
  | .addni b3 ah al => Sys2Proof.Machine.execAddni b3 ah al s
  | .subm b3 ah al => Sys2Proof.Machine.execSubm b3 ah al s
  | .suba b3 ah al => Sys2Proof.Machine.execSuba b3 ah al s
  | .subs b3 ah al => Sys2Proof.Machine.execSubs b3 ah al s
  | .subn b3 ah al => Sys2Proof.Machine.execSubn b3 ah al s
  | .submi b3 ah al => Sys2Proof.Machine.execSubmi b3 ah al s
  | .subai b3 ah al => Sys2Proof.Machine.execSubai b3 ah al s
  | .subsi b3 ah al => Sys2Proof.Machine.execSubsi b3 ah al s
  | .subni b3 ah al => Sys2Proof.Machine.execSubni b3 ah al s
  | .hlt ah al => Sys2Proof.Machine.execHlt ah al s
  | .jmp ah al => Sys2Proof.Machine.execJmp ah al s
  | .jmpb ah al => Sys2Proof.Machine.execJmpb ah al s
  | .jz ah al => Sys2Proof.Machine.execJz ah al s
  | .jp ah al => Sys2Proof.Machine.execJp ah al s
  | .nopfF2 ah al => Sys2Proof.Machine.execNopfF2 ah al s
  | .nopfF3 ah al => Sys2Proof.Machine.execNopfF3 ah al s
  | .nopfF5 ah al => Sys2Proof.Machine.execNopfF5 ah al s
  | .nopfF6 ah al => Sys2Proof.Machine.execNopfF6 ah al s
  | .nopfF7 ah al => Sys2Proof.Machine.execNopfF7 ah al s
  | .nopfF8 ah al => Sys2Proof.Machine.execNopfF8 ah al s
  | .nopfF9 ah al => Sys2Proof.Machine.execNopfF9 ah al s
  | .nopfFA ah al => Sys2Proof.Machine.execNopfFA ah al s
  | .nopfFB ah al => Sys2Proof.Machine.execNopfFB ah al s
  | .nopfFC ah al => Sys2Proof.Machine.execNopfFC ah al s
  | .nopfFD ah al => Sys2Proof.Machine.execNopfFD ah al s
  | .rsv4 low ah al => Sys2Proof.Machine.execRsv4 low ah al s
  | .rsv5 low ah al => Sys2Proof.Machine.execRsv5 low ah al s
  | .rsv6 low ah al => Sys2Proof.Machine.execRsv6 low ah al s
  | .rsv7 low ah al => Sys2Proof.Machine.execRsv7 low ah al s
  | .rsv8 low ah al => Sys2Proof.Machine.execRsv8 low ah al s
  | .rsv9 low ah al => Sys2Proof.Machine.execRsv9 low ah al s
  | .rsvA low ah al => Sys2Proof.Machine.execRsvA low ah al s
  | .rsvB low ah al => Sys2Proof.Machine.execRsvB low ah al s
  | .rsvC low ah al => Sys2Proof.Machine.execRsvC low ah al s
  | .rsvD low ah al => Sys2Proof.Machine.execRsvD low ah al s
  | .rsvE low ah al => Sys2Proof.Machine.execRsvE low ah al s

end Sys2Proof.Machine
end

