-- ==== Sys2Proof/Machine/Fetch.lean ====
section
/-! DEFINITION. Machine/Fetch.lean: the bytes FETCH reads, and placing an instruction where it reads them
(40_cycle_and_control_wires.md R121; 20_memory.md R69, R70). -/

namespace Sys2Proof.Machine

/-- The three bytes FETCH reads, at IP, IP + 1 and IP + 2, each reduced modulo 65536 (R121). -/
def State.fetchBytes (s : State) : List Byte :=
  [memRead1 s.mem s.ip.toNat, memRead1 s.mem (s.ip.toNat + 1), memRead1 s.mem (s.ip.toNat + 2)]

/-- The instruction in memory at IP. Every three bytes are one (30_encoding.md R103). -/
def State.fetchInstr (s : State) : Instr :=
  decodeWord (memRead1 s.mem s.ip.toNat) (memRead1 s.mem (s.ip.toNat + 1)) (memRead1 s.mem (s.ip.toNat + 2))

/-- Bytes written one after another from address `a` up, wrapping at the top of memory. -/
def placeBytes (m : Memory) (a : Nat) : List Byte → Memory
  | [] => m
  | b :: bytes => placeBytes (memWrite1 m a b) (a + 1) bytes

/-- The state with the table word `w` in memory at IP and the machine in FETCH (notes/assumptions/12.md). -/
def State.placeTableWord (s : State) (nbits w : Nat) : State :=
  { s with mem := placeBytes s.mem s.ip.toNat (tableWordBytes nbits w), phase := .fetch }

end Sys2Proof.Machine
end

