-- ==== Sys2Proof/Machine/Step.lean ====
section
/-! DEFINITION. Machine/Step.lean: one step, which is one cycle (40_cycle_and_control_wires.md R120, R150, R151;
notes/assumptions/1.md). -/

namespace Sys2Proof.Machine

/-- One step. In FETCH: fetch the instruction at IP and run it to the end of its cycle. In HALT and FAULT: none, both are
terminal (10_state.md R38). In a phase inside a cycle, which no step leaves the machine in: the rest of that cycle. -/
def step (s : State) : Host.Outcome State Fault Refusal :=
  match s.phase with
  | .fetch => exec s.fetchInstr s
  | .decode => .next s.decodePhase.checkThenExecute
  | .checkRun => .next s.checkThenExecute
  | .execute => .next s.executePhase
  | .halt => .fault .halted
  | .fault => .fault .faulted

/-- `s` with the instruction word `w`, numbered as spec/opcode_table.json numbers its bits, where `step` fetches next. -/
def State.withFetchWord (s : State) (nbits w : Nat) : State := s.placeTableWord nbits w

end Sys2Proof.Machine
end

