-- ==== Sys2Proof/Machine/Boot.lean ====
section
/-! DEFINITION. Machine/Boot.lean: what the host does before the first cycle (70_reset_and_hazards.md R332; 80_interfaces_and_host.md
R363, R364): the configuration string and the image. -/

namespace Sys2Proof.Machine

/-- `G[k]` from the configuration string: false exactly when position `k` holds the character '0' (10_state.md R30, 80 R363). -/
def configGate (bits : List Char) (k : Nat) : Bool := !decide (bits[k]? = some '0')

/-- `setConfig(bits)` (10_state.md R30, 80 R363); characters from position 10 on are ignored (the spec's decision D11). -/
def setConfig (bits : List Char) : Gates :=
  { g0 := configGate bits 0, g1 := configGate bits 1, g2 := configGate bits 2, g3 := configGate bits 3,
    g4 := configGate bits 4, g5 := configGate bits 5, g6 := configGate bits 6, g7 := configGate bits 7,
    g8 := configGate bits 8, g9 := configGate bits 9 }

/-- The gates of a run: all enabled when the host gives no string (10_state.md R30; the spec's decision D3). -/
def gatesFor : Option (List Char) → Gates
  | none => Config.allEnabled
  | some bits => setConfig bits

/-- The machine after reset, configuration and load of an image from address 0: in FETCH at IP = 0 (R332). -/
def bootImage (config : Option (List Char)) (image : List Byte) : State :=
  { State.reset with gates := gatesFor config, mem := bulkLoad State.reset.mem 0 image }

/-- Boot (R332). None for an image that does not fit: the load fails and there is no run (80 R364, 60 R315). -/
def boot (config : Option (List Char)) (image : List Byte) : Option State :=
  if imageFits image then some (bootImage config image) else none

end Sys2Proof.Machine
end

