-- ==== Sys2Proof/Machine/Loader.lean ====
section
/-! DEFINITION. Machine/Loader.lean: the loader's program text (30_encoding.md R107, 80_interfaces_and_host.md R364), from the
characters of the text to the image, and the boot from it. The loader is on the host's side of the interface
(00_scope.md R5); what it accepts that the source does not say is in notes/assumptions/23.md. -/

namespace Sys2Proof.Machine

/-- Why a load fails; there is then no run (80 R364, 60 R315). Each failure reports the offending token and its line, counted
from 1 (R107). -/
inductive LoadError where
  /-- A token of odd length. -/
  | oddLength (token : List Char) (line : Nat)
  /-- A token of even length that is not made of hex digits; the refusal is the model's (notes/assumptions/23.md). -/
  | notHex (token : List Char) (line : Nat)
  /-- A token with whose bytes the total exceeds 65536. DESIGN CHOICE: that the report of the offending token and line covers
  this failure too, and that this token is the offending one (notes/assumptions/25.md). -/
  | tooLong (token : List Char) (line : Nat)
  deriving DecidableEq, Repr

/-- The value of a hex digit; the letters are upper case (notes/assumptions/23.md). -/
def hexValue (c : Char) : Option Nat :=
  if 48 ≤ c.toNat ∧ c.toNat ≤ 57 then some (c.toNat - 48)
  else if 65 ≤ c.toNat ∧ c.toNat ≤ 70 then some (c.toNat - 55)
  else none

/-- The bytes of a run of hex-digit pairs, the high digit first (R107). -/
def pairBytes : List Char → Option (List Byte)
  | a :: b :: rest =>
    match hexValue a, hexValue b, pairBytes rest with
    | some x, some y, some bytes => some (BitVec.ofNat 8 (16 * x + y) :: bytes)
    | _, _, _ => none
  | [] => some []
  | _ => none

/-- White space inside a line. -/
def isBlank (c : Char) : Bool := c == ' ' || c == '\t' || c == '\r'

/-- A finished token, its characters held in reverse, put before `rest`; no characters are no token. -/
def closeToken (line : Nat) (token : List Char) (rest : List (Nat × List Char)) : List (Nat × List Char) :=
  if token = [] then rest else (line, token.reverse) :: rest

/-- The tokens of a text with their lines: white space separates, `;` begins a comment to the end of the line (R107). -/
def tokensFrom : Nat → Bool → List Char → List Char → List (Nat × List Char)
  | line, _, token, [] => closeToken line token []
  | line, comment, token, c :: text =>
    if c = '\n' then closeToken line token (tokensFrom (line + 1) false [] text)
    else if comment then tokensFrom line true token text
    else if c = ';' then closeToken line token (tokensFrom line true [] text)
    else if isBlank c then closeToken line token (tokensFrom line false [] text)
    else tokensFrom line false (c :: token) text

/-- The bytes of one token, or the reason it is refused (R107). -/
def readToken (line : Nat) (token : List Char) : Except LoadError (List Byte) :=
  if token.length % 2 = 1 then .error (.oddLength token line)
  else
    match pairBytes token with
    | some bytes => .ok bytes
    | none => .error (.notHex token line)

/-- The bytes of all tokens in order, or the first refusal, with room for `room` bytes (R107; notes/assumptions/25.md). -/
def readTokens : Nat → List (Nat × List Char) → Except LoadError (List Byte)
  | _, [] => .ok []
  | room, (line, token) :: rest =>
    match readToken line token with
    | .error e => .error e
    | .ok bytes =>
      if room < bytes.length then .error (.tooLong token line)
      else
        match readTokens (room - bytes.length) rest with
        | .ok image => .ok (bytes ++ image)
        | .error e => .error e

/-- The image a program text stands for (R107, R364). -/
def loadText (text : List Char) : Except LoadError (List Byte) :=
  readTokens Config.memSize (tokensFrom 1 false [] text)

/-- Boot from a program text (70_reset_and_hazards.md R332); after a failed load there is no run (R364). -/
def bootText (config : Option (List Char)) (text : List Char) : Except LoadError State :=
  match loadText text with
  | .ok image => .ok (bootImage config image)
  | .error e => .error e

/-- The upper-case hex digit of a number below 16. -/
def hexDigit (n : Nat) : Char := if n < 10 then Char.ofNat (48 + n) else Char.ofNat (55 + n)

/-- A byte as two hex digits. -/
def hexByte (b : Byte) : List Char := [hexDigit (b.toNat / 16), hexDigit (b.toNat % 16)]

/-- A byte string as program text: a pair of digits and a space for each byte (R107). -/
def hexText : List Byte → List Char
  | [] => []
  | b :: bytes => hexByte b ++ ' ' :: hexText bytes

end Sys2Proof.Machine
end

