-- ==== Sys2Proof/Machine/Run.lean ====
section
/-! DEFINITION. Machine/Run.lean: the run loop under the host's budget, its three outcomes and what the host can read
afterwards (80_interfaces_and_host.md R366 to R369; notes/assumptions/14.md). -/

namespace Sys2Proof.Machine

/-- How a run ends (R367), with the state the host then reads. -/
inductive RunEnd where
  /-- CHECK-RUN found `E(0)` false. -/
  | halted (s : State)
  /-- The ALU raised InvalidAluSelector. -/
  | faulted (s : State)
  /-- The host stopped stepping; the machine is still in FETCH. -/
  | budgetExceeded (s : State)
  deriving DecidableEq, Repr

/-- The run loop with a budget of cycles (R366, R369): the budget is looked at once per FETCH, a terminal phase before it. The
last arm is never taken: outside HALT and FAULT `step` answers a next state. -/
def runFor : Nat → State → RunEnd
  | fuel, s =>
    match s.phase with
    | .halt => .halted s
    | .fault => .faulted s
    | _ =>
      match fuel with
      | 0 => .budgetExceeded s
      | fuel + 1 =>
        match step s with
        | .next s' => runFor fuel s'
        | _ => .budgetExceeded s

/-- What the host can observe after a run: IP, AX, SI and the memory (R368). -/
structure Observation where
  ip : Word
  ax : Word
  si : Word
  mem : Memory
  deriving DecidableEq, Repr

/-- The observable part of a state (R368). -/
def State.observe (s : State) : Observation := { ip := s.ip, ax := s.ax, si := s.si, mem := s.mem }

end Sys2Proof.Machine
end

