-- ==== Sys2Proof/Safety.lean ====
section
/-! DEFINITION. Safety.lean: the terms in which claims speak of runs: terminal phases, invariants, reachable states, runs that
never fault (10_state.md R34, R36, R38; 60_exceptions.md R303). -/

namespace Sys2Proof.Machine

/-- HALT or FAULT: no further step (R38). -/
abbrev State.Terminal (s : State) : Prop := s.phase = .halt ∨ s.phase = .fault

/-- The phases a cycle can end in, and so the only ones between cycles (R36, R120). -/
abbrev State.AtBoundary (s : State) : Prop := s.phase = .fetch ∨ s.phase = .halt ∨ s.phase = .fault

/-- What the representation and wire 10 keep to: memory in canonical form, `W[10]` false (R31). -/
abbrev State.Inv (s : State) : Prop := Memory.wf s.mem = true ∧ s.wires.w10 = false

/-- The flag invariant (R34): (a) no latch yet, AX 0 and both flags false; (b) AX not 0, the positive flag alone; (c) AX 0, the
zero flag alone. -/
abbrev State.FlagInv (s : State) : Prop :=
  (s.ax = 0 ∧ s.wires.w8 = false ∧ s.wires.w9 = false) ∨
  (s.ax ≠ 0 ∧ s.wires.w8 = true ∧ s.wires.w9 = false) ∨
  (s.ax = 0 ∧ s.wires.w8 = false ∧ s.wires.w9 = true)

/-- `t` is reached from `s` by some number of steps, with no budget (00_scope.md R8: MAX_CYCLES none). -/
inductive Reaches : State → State → Prop where
  | refl (s : State) : Reaches s s
  | tail {s t u : State} : Reaches s t → step t = .next u → Reaches s u

/-- No run from `s` faults (60 R303). -/
def SafeFrom (s : State) : Prop := ∀ t, Reaches s t → t.phase ≠ .fault

/-- The run from `s` ends in HALT (60 R303: a run that ends in FAULT does not halt). -/
def HaltsFrom (s : State) : Prop := ∃ t, Reaches s t ∧ t.phase = .halt

end Sys2Proof.Machine
end

