-- ==== Sys2Proof/Certificates/Slice0/Obligations.lean ====
section
/-! DEFINITION. Certificates/Slice0/Obligations.lean: the statements for the provers.
`Claims` holds the next states the spec's tables give, written out field by field, so that each result statement is its
instructions' whole effect and whole frame at once. -/

namespace Sys2Proof.Claims

open Sys2Proof.Machine

/-- An opcode byte of rows 0 to 3: `n`, or `n + 8` when bit 3 is set (30_encoding.md R99). -/
def rowByte (n : Nat) (b3 : Bool) : Byte := BitVec.ofNat 8 (n + if b3 then 8 else 0)

/-- The operand address an instruction with the address bytes `ah`, `al` has in `s` (R122). -/
abbrev ea (s : State) (ah al : Byte) : Word := effectiveAddress ah al s.si

/-- `signAdjust(AX)` (R141): AX when an effective flag is true, else its 16-bit negation. -/
def signAdjusted (s : State) : Word :=
  if (s.wires.w8 && s.gates.g8) || (s.wires.w9 && s.gates.g9) then s.ax else -s.ax

/-- `second` of a memory form (R95): the 16-bit value at the operand address. -/
def memoryOperand (s : State) (ah al : Byte) : Word := memRead2 s.mem (ea s ah al).toNat

/-- `second` of an immediate form (R95): the operand address, or the value there when gate 4 is cut (R275). -/
def immediateOperand (s : State) (ah al : Byte) : Word :=
  if s.gates.g4 then ea s ah al else memoryOperand s ah al

/-- `s` after FETCH and DECODE: the latches hold the word, the raw wires 0 to 7 the given values; nothing else differs. -/
def decoded (s : State) (op ah al : Byte) (w0 w1 w2 w3 w4 w5 w6 w7 : Bool) : State :=
  { s with
    op := op, ah := ah, al := al, ea := ea s ah al
    wires :=
      { s.wires with w0 := w0, w1 := w1, w2 := w2, w3 := w3, w4 := w4, w5 := w5, w6 := w6, w7 := w7 } }

/-- What SI holds after an instruction that clears it: 0; `r` when gate 3 is cut; unchanged when gate 2 is cut. -/
def siCleared (s : State) (r : Word) : Word := if s.gates.g2 then (if s.gates.g3 then 0 else r) else s.si

/-- Destination memory (suffix M, MI; R97): `r` goes to the two cells at the operand address when gate 5 is enabled. -/
def toMemory (s : State) (op ah al : Byte) (imm : Bool) (r : Word) : State :=
  { decoded s op ah al true false true true imm true true false with
    mem := if s.gates.g5 then memWrite2 s.mem (ea s ah al).toNat r else s.mem
    si := siCleared s r, ip := s.ip + 3, phase := .fetch }

/-- Destination AX and the flags (suffix A, AI; R97, R138): `W[8] <- r != 0`, `W[9] <- r == 0`, when gate 1 is enabled. -/
def toAx (s : State) (op ah al : Byte) (imm : Bool) (r : Word) : State :=
  let d := decoded s op ah al true true true true imm false true false
  { d with
    ax := if s.gates.g1 then r else s.ax
    wires := if s.gates.g1 then { d.wires with w8 := decide (r ≠ 0), w9 := decide (r = 0) } else d.wires
    si := siCleared s r, ip := s.ip + 3, phase := .fetch }

/-- Destination SI (suffix S, SI; R97): `r` when gate 2 is enabled; never cleared. -/
def toSi (s : State) (op ah al : Byte) (imm : Bool) (r : Word) : State :=
  { decoded s op ah al true false true false imm false true false with
    si := if s.gates.g2 then r else s.si
    ip := s.ip + 3, phase := .fetch }

/-- No destination (suffix N, NI; R97). -/
def toNothing (s : State) (op ah al : Byte) (imm : Bool) (r : Word) : State :=
  { decoded s op ah al true false true true imm false true false with
    si := siCleared s r, ip := s.ip + 3, phase := .fetch }

/-- Row F but HLT (45_control.md R246), with the raw jump condition `j`. -/
def rowF (s : State) (op ah al : Byte) (j : Bool) : State :=
  { decoded s op ah al true false true true false false true j with
    si := siCleared s (if s.gates.g6 then 0 else signAdjusted s)
    ip := if j && s.gates.g7 then ea s ah al else s.ip + 3
    phase := .fetch }

/-- The raw wires of a reserved opcode by its low three bits `i p1 p0` (R153), and the phase FAULT (60 R302). -/
def faulted (s : State) (n : Nat) (low : BitVec 4) (ah al : Byte) : State :=
  { decoded s (BitVec.ofNat 8 (16 * n + low.toNat)) ah al true (decide (low.toNat % 4 = 1)) true
      (decide (low.toNat % 4 ≠ 2)) (decide (low.toNat / 4 % 2 = 1)) (decide (low.toNat % 4 = 0)) true false with
    phase := .fault }

/-- A cycle that halts in CHECK-RUN (R133): only the latches, the raw wires 0 to 7 and the phase differ from `s`. -/
def halted (i : Instr) (s : State) : State :=
  { s with
    op := i.opcode, ah := i.highByte, al := i.lowByte, ea := ea s i.highByte i.lowByte
    wires := decodeWires i.opcode (s.wires.w8 && s.gates.g8) (s.wires.w9 && s.gates.g9) s.wires
    phase := .halt }

/-- The ALU's result in an instruction of rows 0 to 3, or of rows 4 to E with gate 6 cut: the family's function of
`signAdjust(AX)` and the operand, or `signAdjust(AX)` with gate 6 cut (R142 to R146, R277). -/
def storedValue (s : State) (i : Instr) : Word :=
  let second :=
    if i.opcode.getLsbD 2 then immediateOperand s i.highByte i.lowByte else memoryOperand s i.highByte i.lowByte
  if s.gates.g6 then
    if i.opcode.toNat < 0x10 then signAdjusted s
    else if i.opcode.toNat < 0x20 then second
    else if i.opcode.toNat < 0x30 then signAdjusted s + second
    else signAdjusted s - second
  else signAdjusted s

/-- The SGN instruction with the low nibble `low` (41_sgn.md R200 to R207, either value of bit 3). -/
def sgnOf (low : BitVec 4) (ah al : Byte) : Instr := decodeWord (BitVec.ofNat 8 low.toNat) ah al

end Sys2Proof.Claims

open Sys2Proof Sys2Proof.Machine Sys2Proof.Claims

/-! ### Reset -/

/-- After reset AX, SI and IP are 0, every cell reads 0 and the phase is FETCH (R40, R331). The flags, wire 10 and the gates
have the values of the spec's decisions D2 and D3 (notes/assumptions/5.md, 6.md): the spec's own inference, so no rule is
claimed for them. -/
def Obligations.ResetState : Prop :=
  State.reset.ax = 0 ∧ State.reset.si = 0 ∧ State.reset.ip = 0 ∧ State.reset.phase = .fetch ∧
  (∀ a : Int, memRead1 State.reset.mem a = 0) ∧
  (∀ k : Fin 11, State.reset.wires.raw k = false) ∧ (∀ k : Fin 11, k ≠ 10 → gateOf State.reset.gates k = true)

/-- The reset state has a canonical memory, wire 10 false and the flag invariant's case (a). The flags' reset values are the
spec's decision D2 (notes/assumptions/5.md). -/
def Obligations.ResetMeetsTheInvariants : Prop := State.reset.Inv ∧ State.reset.FlagInv

/-! ### Encoding -/

/-- Every instruction, with every value of its fields, is read back from its three bytes whatever follows them (R91, R92). -/
def Obligations.DecodeOfEncode : Prop :=
  ∀ (i : Instr) (rest : List Byte), i.wellFormed = true → decode (encode i ++ rest) = .ok (i, rest)

/-- Every three bytes are an instruction whose encoding is those three bytes: no bit is dropped, bit 3 and the bytes HLT and
NOPF ignore among them; fewer than three bytes are rejected by name (R90, R91, R103). -/
def Obligations.EncodeOfDecode : Prop :=
  (∀ op ah al : Byte, encode (decodeWord op ah al) = [op, ah, al]) ∧
  (∀ bytes : List Byte, bytes.length < 3 ↔ decode bytes = .error .truncated)

/-- Words written out from the encodings of R98, R99, R100 and R101 decode to the instructions they stand for. -/
def Obligations.WrittenWordsDecode : Prop :=
  decode [0x00, 0x02, 0x00] = .ok (.sgnm false 0x02 0x00, []) ∧
  decode [0x1D, 0x00, 0x2A] = .ok (.movai true 0x00 0x2A, []) ∧
  decode [0x21, 0x00, 0x04] = .ok (.adda false 0x00 0x04, []) ∧
  decode [0x36, 0x00, 0x01] = .ok (.subsi false 0x00 0x01, []) ∧
  decode [0xFF, 0x12, 0x34] = .ok (.hlt 0x12 0x34, []) ∧
  decode [0xF1, 0x00, 0x40] = .ok (.jp 0x00 0x40, []) ∧
  decode [0xEA, 0x00, 0x10] = .ok (.rsvE 0xA 0x00 0x10, [])

/-! ### The step -/

/-- In FETCH, where the three bytes at IP decode to an instruction, `step` is `exec` of it at the same state: `exec` itself
latches the word and moves IP, `step` adds nothing (R121, R150). -/
def Obligations.StepRunsTheDecodedInstruction : Prop :=
  ∀ (s : State) (i : Instr), s.phase = .fetch → decode s.fetchBytes = .ok (i, []) → i.wellFormed = true →
    step s = exec i s

/-- HALT and FAULT are terminal: in them the machine takes no further step, and from such a state nothing but that very state
is ever reached (R38). That `step` then answers the named faults is the model's choice (DESIGN CHOICE,
notes/assumptions/2.md); that a state whose phase is DECODE, CHECK-RUN or EXECUTE has a next one, so that HALT and FAULT are
the only phases without, rests on the model's choice for those phases (DESIGN CHOICE, notes/assumptions/1.md). -/
def Obligations.TerminalPhasesTakeNoStep : Prop :=
  ∀ s : State, (s.Terminal ↔ ∀ t : State, step s ≠ .next t) ∧ (s.Terminal ↔ s.phaseStep = none) ∧
    (s.phase = .halt → step s = .fault .halted) ∧ (s.phase = .fault → step s = .fault .faulted) ∧
    (s.Terminal → ∀ t : State, Reaches s t → t = s)

/-- Outside HALT and FAULT every step completes, and its cycle ends in FETCH, HALT or FAULT (T1; R120). What `step` does from
a phase inside a cycle is the model's choice (notes/assumptions/1.md). -/
def Obligations.EveryCycleCompletes : Prop :=
  ∀ s : State, ¬ s.Terminal → ∃ t : State, step s = .next t ∧ t.AtBoundary

/-- A step from FETCH, which runs the decoded instruction's own meaning, is the control state machine taken phase by phase:
FETCH, DECODE, CHECK-RUN, then HALT exactly when `E(0)` is false, else EXECUTE, then FAULT exactly when the selector has no
function, else FETCH (R120, R150). The row for FAULT is the spec's decision D4. -/
def Obligations.StepIsThePhaseMachine : Prop :=
  ∀ s : State, s.phase = .fetch →
    ∃ d c e : State, s.phaseStep = some d ∧ d.phase = .decode ∧ d.phaseStep = some c ∧ c.phase = .checkRun ∧
      c.phaseStep = some e ∧
      ((e.phase = .halt ∧ c.eff 0 = false ∧ step s = .next e) ∨
       (e.phase = .execute ∧ c.eff 0 = true ∧ ∃ t : State, e.phaseStep = some t ∧ step s = .next t ∧
         ((t.phase = .fault ∧ e.selector ∉ [0x0, 0x1, 0x2, 0x3, 0xF]) ∨
          (t.phase = .fetch ∧ e.selector ∈ [0x0, 0x1, 0x2, 0x3, 0xF]))))

/-! ### Invariants -/

/-- Every step keeps the memory's canonical form and wire 10 false (R31), from any state. -/
def Obligations.EveryStepKeepsTheInvariant : Prop :=
  ∀ s t : State, s.Inv → step s = .next t → t.Inv

/-- Every step keeps the flag invariant (R34), from any state and under any configuration. -/
def Obligations.EveryStepKeepsTheFlagInvariant : Prop :=
  ∀ s t : State, s.FlagInv → step s = .next t → t.FlagInv

/-- T4 and T5: in every run from boot, with any configuration and any image, both invariants hold, the gates are those of the
configuration, and the value `Claims.signAdjusted` writes out for signAdjust(AX) (R141; `SignAdjustUnderTheFlagInvariant` is
about the ALU's own `signAdjust`) is AX with gate 8 enabled and its negation with gate 8 cut (R34, R152). Rests on the reset
values of the spec's decision D2 (notes/assumptions/5.md); that a run's gates are those of its configuration and do not
change is its D3 (R30, notes/assumptions/6.md). -/
def Obligations.RunsFromBootKeepTheInvariants : Prop :=
  ∀ (config : Option (List Char)) (image : List Byte) (s t : State), boot config image = some s → Reaches s t →
    t.Inv ∧ t.FlagInv ∧ t.AtBoundary ∧ t.gates = gatesFor config ∧
    signAdjusted t = if t.gates.g8 then t.ax else -t.ax

/-- In any state with the flag invariant, signAdjust(AX) is AX when gate 8 is enabled and `neg16(AX)` when it is cut, whatever
gate 9 is (R152); with gates 8 and 9 cut it is `neg16(x)` for every `x`, with no invariant (R281). -/
def Obligations.SignAdjustUnderTheFlagInvariant : Prop :=
  (∀ s : State, s.FlagInv → signAdjust (s.eff 8) (s.eff 9) s.ax = if s.gates.g8 then s.ax else -s.ax) ∧
  (∀ (s : State) (x : Word), s.gates.g8 = false → s.gates.g9 = false → signAdjust (s.eff 8) (s.eff 9) x = -x)

/-- With gate 6 cut no run faults, from any state not in FAULT already (R277). That gate 6 stays cut through the run is the
spec's decision D3 (R30, notes/assumptions/6.md). -/
def Obligations.GateSixCutNeverFaults : Prop :=
  ∀ s : State, s.gates.g6 = false → s.phase ≠ .fault → SafeFrom s

/-! ### Components -/

/-- The operand address is the 16-bit sum of the raw address and SI: the carry out of the low bytes reaches the high byte
(R94, R122, T7; the spec's decision D9, notes/assumptions/10.md). -/
def Obligations.EffectiveAddressIsRawPlusIndex : Prop :=
  ∀ (ah al : Byte) (si : Word),
    effectiveAddress ah al si = ofHalves ah al + si ∧
    (effectiveAddress ah al si).toNat = (256 * ah.toNat + al.toNat + si.toNat) % 65536

/-- DECODE: the fields `p` and `i` and the raw wires 0 to 5 and 7 of every latched opcode byte, wire 7 from the effective flags
at decode time, and nothing else written but wire 6 and the phase. -/
def Obligations.DecoderWires : Prop :=
  ∀ s : State,
    let p := if s.op.toNat / 16 = 15 then 4 else s.op.toNat % 4
    let i := if s.op.toNat / 16 = 15 then 0 else s.op.toNat / 4 % 2
    let d := s.decodePhase
    d.wires.w0 = decide (s.op ≠ 0xFF) ∧ d.wires.w1 = decide (p = 1) ∧ d.wires.w2 = true ∧
    d.wires.w3 = decide (p ≠ 2) ∧ d.wires.w4 = decide (i = 1) ∧ d.wires.w5 = decide (p = 0) ∧
    (d.wires.w7 = true ↔ s.op = 0xFE ∨ (s.op = 0xF0 ∧ s.eff 9 = true) ∨ s.op = 0xF4 ∨ (s.op = 0xF1 ∧ s.eff 8 = true)) ∧
    d.wires.w8 = s.wires.w8 ∧ d.wires.w9 = s.wires.w9 ∧ d.wires.w10 = s.wires.w10 ∧
    d = { s with wires := d.wires, phase := .checkRun }

/-- The five functions of the ALU, as arithmetic modulo 65536 (R143 to R147). `signAdjust` (R141) is written out: with no
effective flag it is the negation of R13, a definition from general knowledge (PRESUMED, notes/assumptions/17.md); that the
flags are those of the moment is the spec's decision D16 (notes/assumptions/11.md). -/
def Obligations.AluFunctions : Prop :=
  ∀ (e8 e9 : Bool) (first second : Word),
    let sa : Word := if e8 || e9 then first else -first
    alu e8 e9 0x0 first second = some sa ∧
    alu e8 e9 0x1 first second = some second ∧
    alu e8 e9 0x2 first second = some (sa + second) ∧
    alu e8 e9 0x3 first second = some (sa - second) ∧
    alu e8 e9 0xF first second = some 0

/-- Exactly the selectors 4 to 0xE have no function (R148, R301). -/
def Obligations.AluHasNoFunctionForReservedSelectors : Prop :=
  ∀ (e8 e9 : Bool) (sel : BitVec 4) (first second : Word),
    alu e8 e9 sel first second = none ↔ 4 ≤ sel.toNat ∧ sel.toNat ≤ 14

/-- A one-byte write sets its cell, for any integer address, and changes no other cell; the memory's canonical form is the
representation's (notes/assumptions/13.md). -/
def Obligations.ByteWriteSetsOneCell : Prop :=
  ∀ (m : Memory) (a c : Int) (b : Byte), Memory.wf m = true →
    memRead1 (memWrite1 m a b) a = b ∧
    (c % 65536 ≠ a % 65536 → memRead1 (memWrite1 m a b) c = memRead1 m c)

/-- A 16-bit write at any integer address: the high half is at `a`, the low half at `a + 1` modulo 65536, no other cell changes,
and a 16-bit read at `a`, or at `a + 1`, sees it so (R63, R65, R69, R83; big-endian by the spec's decision D1,
notes/assumptions/4.md). -/
def Obligations.WordWriteThenReads : Prop :=
  ∀ (m : Memory) (a c : Int) (v : Word), Memory.wf m = true →
    memRead1 (memWrite2 m a v) a = highHalf v ∧ memRead1 (memWrite2 m a v) (a + 1) = lowHalf v ∧
    memRead2 (memWrite2 m a v) a = v ∧
    memRead2 (memWrite2 m a v) (a + 1) = ofHalves (lowHalf v) (memRead1 m (a + 2)) ∧
    (c % 65536 ≠ a % 65536 → c % 65536 ≠ (a + 1) % 65536 → memRead1 (memWrite2 m a v) c = memRead1 m c)

/-! ### Results: the whole next state of every instruction -/

/-- The whole next state of each instruction of the SGN family (R200 to R207): `signAdjust(AX)`. With gate 0 enabled, under every
other gate, in every state, each of the eight completes (a state with gate 0 cut: `GateZeroCutHaltsEveryInstruction`). The
byte order of the stored word is the spec's decision D1, the raw wire 6 its D6, the unsigned flag its D8, the operand address
its D9, the flags `signAdjust` reads its D16 (notes/assumptions/4.md, 8.md, 9.md, 10.md, 11.md); the negation is R13's
(PRESUMED, notes/assumptions/17.md). -/
def Obligations.SgnFamilyResults : Prop :=
  ∀ (s : State) (b3 : Bool) (ah al : Byte), s.gates.g0 = true →
    let m := signAdjusted s
    let im := signAdjusted s
    exec (.sgnm b3 ah al) s = .next (toMemory s (rowByte 0x00 b3) ah al false m) ∧
    exec (.sgna b3 ah al) s = .next (toAx s (rowByte 0x01 b3) ah al false m) ∧
    exec (.sgns b3 ah al) s = .next (toSi s (rowByte 0x02 b3) ah al false m) ∧
    exec (.sgnn b3 ah al) s = .next (toNothing s (rowByte 0x03 b3) ah al false m) ∧
    exec (.sgnmi b3 ah al) s = .next (toMemory s (rowByte 0x04 b3) ah al true im) ∧
    exec (.sgnai b3 ah al) s = .next (toAx s (rowByte 0x05 b3) ah al true im) ∧
    exec (.sgnsi b3 ah al) s = .next (toSi s (rowByte 0x06 b3) ah al true im) ∧
    exec (.sgnni b3 ah al) s = .next (toNothing s (rowByte 0x07 b3) ah al true im)

/-- The whole next state of each instruction of the MOV family (R210 to R217): the operand, or `signAdjust(AX)` with gate 6 cut. With gate 0 enabled, under every
other gate, in every state, each of the eight completes (a state with gate 0 cut: `GateZeroCutHaltsEveryInstruction`). The
byte order of the stored word is the spec's decision D1, the raw wire 6 its D6, the unsigned flag its D8, the operand address
its D9, the flags `signAdjust` reads its D16 (notes/assumptions/4.md, 8.md, 9.md, 10.md, 11.md); the negation is R13's
(PRESUMED, notes/assumptions/17.md). -/
def Obligations.MovFamilyResults : Prop :=
  ∀ (s : State) (b3 : Bool) (ah al : Byte), s.gates.g0 = true →
    let f : Word → Word := fun x => if s.gates.g6 then x else signAdjusted s
    let m := f (memoryOperand s ah al)
    let im := f (immediateOperand s ah al)
    exec (.movm b3 ah al) s = .next (toMemory s (rowByte 0x10 b3) ah al false m) ∧
    exec (.mova b3 ah al) s = .next (toAx s (rowByte 0x11 b3) ah al false m) ∧
    exec (.movs b3 ah al) s = .next (toSi s (rowByte 0x12 b3) ah al false m) ∧
    exec (.movn b3 ah al) s = .next (toNothing s (rowByte 0x13 b3) ah al false m) ∧
    exec (.movmi b3 ah al) s = .next (toMemory s (rowByte 0x14 b3) ah al true im) ∧
    exec (.movai b3 ah al) s = .next (toAx s (rowByte 0x15 b3) ah al true im) ∧
    exec (.movsi b3 ah al) s = .next (toSi s (rowByte 0x16 b3) ah al true im) ∧
    exec (.movni b3 ah al) s = .next (toNothing s (rowByte 0x17 b3) ah al true im)

/-- The whole next state of each instruction of the ADD family (R220 to R227): `signAdjust(AX) + second`, or `signAdjust(AX)` with gate 6 cut. With gate 0 enabled, under every
other gate, in every state, each of the eight completes (a state with gate 0 cut: `GateZeroCutHaltsEveryInstruction`). The
byte order of the stored word is the spec's decision D1, the raw wire 6 its D6, the unsigned flag its D8, the operand address
its D9, the flags `signAdjust` reads its D16 (notes/assumptions/4.md, 8.md, 9.md, 10.md, 11.md); the negation is R13's
(PRESUMED, notes/assumptions/17.md). -/
def Obligations.AddFamilyResults : Prop :=
  ∀ (s : State) (b3 : Bool) (ah al : Byte), s.gates.g0 = true →
    let f : Word → Word := fun x => if s.gates.g6 then signAdjusted s + x else signAdjusted s
    let m := f (memoryOperand s ah al)
    let im := f (immediateOperand s ah al)
    exec (.addm b3 ah al) s = .next (toMemory s (rowByte 0x20 b3) ah al false m) ∧
    exec (.adda b3 ah al) s = .next (toAx s (rowByte 0x21 b3) ah al false m) ∧
    exec (.adds b3 ah al) s = .next (toSi s (rowByte 0x22 b3) ah al false m) ∧
    exec (.addn b3 ah al) s = .next (toNothing s (rowByte 0x23 b3) ah al false m) ∧
    exec (.addmi b3 ah al) s = .next (toMemory s (rowByte 0x24 b3) ah al true im) ∧
    exec (.addai b3 ah al) s = .next (toAx s (rowByte 0x25 b3) ah al true im) ∧
    exec (.addsi b3 ah al) s = .next (toSi s (rowByte 0x26 b3) ah al true im) ∧
    exec (.addni b3 ah al) s = .next (toNothing s (rowByte 0x27 b3) ah al true im)

/-- The whole next state of each instruction of the SUB family (R230 to R237): `signAdjust(AX) - second`, or `signAdjust(AX)` with gate 6 cut. With gate 0 enabled, under every
other gate, in every state, each of the eight completes (a state with gate 0 cut: `GateZeroCutHaltsEveryInstruction`). The
byte order of the stored word is the spec's decision D1, the raw wire 6 its D6, the unsigned flag its D8, the operand address
its D9, the flags `signAdjust` reads its D16 (notes/assumptions/4.md, 8.md, 9.md, 10.md, 11.md); the negation is R13's
(PRESUMED, notes/assumptions/17.md). -/
def Obligations.SubFamilyResults : Prop :=
  ∀ (s : State) (b3 : Bool) (ah al : Byte), s.gates.g0 = true →
    let f : Word → Word := fun x => if s.gates.g6 then signAdjusted s - x else signAdjusted s
    let m := f (memoryOperand s ah al)
    let im := f (immediateOperand s ah al)
    exec (.subm b3 ah al) s = .next (toMemory s (rowByte 0x30 b3) ah al false m) ∧
    exec (.suba b3 ah al) s = .next (toAx s (rowByte 0x31 b3) ah al false m) ∧
    exec (.subs b3 ah al) s = .next (toSi s (rowByte 0x32 b3) ah al false m) ∧
    exec (.subn b3 ah al) s = .next (toNothing s (rowByte 0x33 b3) ah al false m) ∧
    exec (.submi b3 ah al) s = .next (toMemory s (rowByte 0x34 b3) ah al true im) ∧
    exec (.subai b3 ah al) s = .next (toAx s (rowByte 0x35 b3) ah al true im) ∧
    exec (.subsi b3 ah al) s = .next (toSi s (rowByte 0x36 b3) ah al true im) ∧
    exec (.subni b3 ah al) s = .next (toNothing s (rowByte 0x37 b3) ah al true im)

/-- HLT, under every configuration: nothing but the latches, the raw wires 0 to 7 and the phase changes, and the phase becomes
HALT (R240); a machine in FETCH at a byte 0xFF halts in that one step; with all gates enabled no other instruction halts. The
raw wire 6 is the spec's decision D6 (R130, notes/assumptions/8.md). -/
def Obligations.HltHalts : Prop :=
  (∀ (s : State) (ah al : Byte),
    (Instr.hlt ah al).opcode = 0xFF ∧
    exec (.hlt ah al) s =
      .next { decoded s 0xFF ah al false false true true false false true false with phase := .halt }) ∧
  (∀ s : State, s.phase = .fetch → memRead1 s.mem s.ip.toNat = 0xFF →
    ∃ ah al : Byte, step s =
      .next { decoded s 0xFF ah al false false true true false false true false with phase := .halt }) ∧
  (∀ (i : Instr) (s t : State), s.gates = Config.allEnabled → exec i s = .next t → t.phase = .halt → ∃ ah al : Byte, i = .hlt ah al)

/-- Row F but HLT: JMP, JMPB, JZ, JP and the eleven NOPF opcodes (R241 to R246), for any gates. The raw wire 6 is the spec's
decision D6 (notes/assumptions/8.md), the flags `signAdjust` reads its D16 (notes/assumptions/11.md), the negation R13's
(notes/assumptions/17.md). -/
def Obligations.RowFResults : Prop :=
  ∀ (s : State) (ah al : Byte),
    (s.gates.g0 = true →
      exec (.jmp ah al) s = .next (rowF s 0xFE ah al true) ∧
      exec (.jmpb ah al) s = .next (rowF s 0xF4 ah al true) ∧
      exec (.jz ah al) s = .next (rowF s 0xF0 ah al (s.wires.w9 && s.gates.g9)) ∧
      exec (.jp ah al) s = .next (rowF s 0xF1 ah al (s.wires.w8 && s.gates.g8)) ∧
      exec (.nopfF2 ah al) s = .next (rowF s 0xF2 ah al false) ∧
      exec (.nopfF3 ah al) s = .next (rowF s 0xF3 ah al false) ∧
      exec (.nopfF5 ah al) s = .next (rowF s 0xF5 ah al false) ∧
      exec (.nopfF6 ah al) s = .next (rowF s 0xF6 ah al false) ∧
      exec (.nopfF7 ah al) s = .next (rowF s 0xF7 ah al false) ∧
      exec (.nopfF8 ah al) s = .next (rowF s 0xF8 ah al false) ∧
      exec (.nopfF9 ah al) s = .next (rowF s 0xF9 ah al false) ∧
      exec (.nopfFA ah al) s = .next (rowF s 0xFA ah al false) ∧
      exec (.nopfFB ah al) s = .next (rowF s 0xFB ah al false) ∧
      exec (.nopfFC ah al) s = .next (rowF s 0xFC ah al false) ∧
      exec (.nopfFD ah al) s = .next (rowF s 0xFD ah al false)) ∧
    (s.gates.g0 = false →
      ∀ i ∈ [Instr.jmp ah al, .jmpb ah al, .jz ah al, .jp ah al, .nopfF2 ah al, .nopfF3 ah al, .nopfF5 ah al, .nopfF6 ah al,
          .nopfF7 ah al, .nopfF8 ah al, .nopfF9 ah al, .nopfFA ah al, .nopfFB ah al, .nopfFC ah al, .nopfFD ah al],
        exec i s = .next (halted i s))

/-- The reserved opcodes with gates 0 and 6 enabled: each enters the terminal phase FAULT; AX, SI, IP, the flags, the gates and
the memory are untouched, the latches and the raw wires 0 to 7 hold the faulting instruction (R260, R301, R302). What
"fail fast" is, is the spec's decision D4 (notes/assumptions/3.md), the raw wire 6 its D6 (notes/assumptions/8.md). -/
def Obligations.ReservedOpcodesEnterFault : Prop :=
  ∀ (s : State) (low : BitVec 4) (ah al : Byte), s.gates.g0 = true → s.gates.g6 = true →
    exec (.rsv4 low ah al) s = .next (faulted s 0x4 low ah al) ∧
    exec (.rsv5 low ah al) s = .next (faulted s 0x5 low ah al) ∧
    exec (.rsv6 low ah al) s = .next (faulted s 0x6 low ah al) ∧
    exec (.rsv7 low ah al) s = .next (faulted s 0x7 low ah al) ∧
    exec (.rsv8 low ah al) s = .next (faulted s 0x8 low ah al) ∧
    exec (.rsv9 low ah al) s = .next (faulted s 0x9 low ah al) ∧
    exec (.rsvA low ah al) s = .next (faulted s 0xA low ah al) ∧
    exec (.rsvB low ah al) s = .next (faulted s 0xB low ah al) ∧
    exec (.rsvC low ah al) s = .next (faulted s 0xC low ah al) ∧
    exec (.rsvD low ah al) s = .next (faulted s 0xD low ah al) ∧
    exec (.rsvE low ah al) s = .next (faulted s 0xE low ah al)

/-- The reserved opcodes with gate 6 cut and gate 0 enabled: each does what the SGN instruction of the same low bits does; only
the latch of the opcode byte tells the two apart, and nothing reads it in a later cycle (R37). -/
def Obligations.ReservedOpcodesActAsSgnWithGateSixCut : Prop :=
  ∀ (s : State) (low : BitVec 4) (ah al : Byte), s.gates.g0 = true → s.gates.g6 = false →
    ∃ t : State, exec (sgnOf low ah al) s = .next t ∧ t.phase = .fetch ∧
      exec (.rsv4 low ah al) s = .next { t with op := nibblesOpcode 0x4 low } ∧
      exec (.rsv5 low ah al) s = .next { t with op := nibblesOpcode 0x5 low } ∧
      exec (.rsv6 low ah al) s = .next { t with op := nibblesOpcode 0x6 low } ∧
      exec (.rsv7 low ah al) s = .next { t with op := nibblesOpcode 0x7 low } ∧
      exec (.rsv8 low ah al) s = .next { t with op := nibblesOpcode 0x8 low } ∧
      exec (.rsv9 low ah al) s = .next { t with op := nibblesOpcode 0x9 low } ∧
      exec (.rsvA low ah al) s = .next { t with op := nibblesOpcode 0xA low } ∧
      exec (.rsvB low ah al) s = .next { t with op := nibblesOpcode 0xB low } ∧
      exec (.rsvC low ah al) s = .next { t with op := nibblesOpcode 0xC low } ∧
      exec (.rsvD low ah al) s = .next { t with op := nibblesOpcode 0xD low } ∧
      exec (.rsvE low ah al) s = .next { t with op := nibblesOpcode 0xE low }

/-- With gate 0 cut every instruction halts in CHECK-RUN, the reserved ones without a fault: nothing but the latches, the raw
wires 0 to 7 and the phase changes (also R271, R305). -/
def Obligations.GateZeroCutHaltsEveryInstruction : Prop :=
  ∀ (i : Instr) (s : State), s.gates.g0 = false → exec i s = .next (halted i s)

/-! ### Whole-machine rules -/

/-- CHECK-RUN: with `c` the state DECODE leaves, the machine halts there when `E(0)` is false and goes on to EXECUTE when it is
true; so it halts exactly when the opcode is 0xFF or gate 0 is cut, and entering HALT changes no register, no flag and no
memory cell (R133, T2, T3). -/
def Obligations.HaltExactlyOnHltOrGateZero : Prop :=
  ∀ (i : Instr) (s : State),
    let c := (s.latchWord i.opcode i.highByte i.lowByte).decodePhase
    ∃ t : State, exec i s = .next t ∧
      (c.eff 0 = false → t = { c with phase := .halt }) ∧
      (c.eff 0 = true → t = ({ c with phase := .execute } : State).executePhase) ∧
      (t.phase = .halt ↔ i.opcode = 0xFF ∨ s.gates.g0 = false) ∧
      (t.phase = .halt → t = halted i s)

/-- The machine faults exactly on the opcodes 0x40 to 0xEF with gates 0 and 6 enabled, and a cycle that ends in FAULT changes
nothing but the phase, the latches and the raw wires 0 to 7 (T2, T3; R301, R302, the spec's decision D4). -/
def Obligations.FaultExactlyOnReservedOpcodes : Prop :=
  ∀ (i : Instr) (s : State), ∃ t : State, exec i s = .next t ∧
    (t.phase = .fault ↔
      s.gates.g0 = true ∧ s.gates.g6 = true ∧ 0x40 ≤ i.opcode.toNat ∧ i.opcode.toNat ≤ 0xEF) ∧
    (t.phase = .fault → t = { halted i s with phase := .fault })

/-- Who writes the registers, over all instructions (R25, R28): AX and the flags only an instruction of rows 0 to E whose low
two bits are 1, with gate 1 enabled; SI only with gate 2 enabled; IP only a cycle that completes; the gates (R30, the spec's
decision D3, notes/assumptions/6.md) and wire 10 (R31, its D11, notes/assumptions/18.md) nothing. A cycle that halts (R133) or
faults (R302, its D4, notes/assumptions/3.md) writes none of them. -/
def Obligations.RegisterWriters : Prop :=
  ∀ (i : Instr) (s t : State), exec i s = .next t →
    (¬ (i.opcode.toNat < 0xF0 ∧ i.opcode.toNat % 4 = 1 ∧ s.gates.g1 = true ∧ t.phase = .fetch) →
      t.ax = s.ax ∧ t.wires.w8 = s.wires.w8 ∧ t.wires.w9 = s.wires.w9) ∧
    (¬ (s.gates.g2 = true ∧ t.phase = .fetch) → t.si = s.si) ∧
    (t.phase ≠ .fetch → t.ip = s.ip) ∧
    t.gates = s.gates ∧ t.wires.w10 = s.wires.w10

/-- What each instruction leaves of memory (R70, R137): an instruction of rows 0 to E whose low two bits are 0, completing with
gate 5 enabled, changes at most the two cells at its operand address; every other form changes no cell, and neither does a
cycle that halts (R133) or faults (R302, the spec's decision D4, notes/assumptions/3.md). The operand address is
`effectiveAddress` (R122, its D9, notes/assumptions/10.md). -/
def Obligations.MemoryFrame : Prop :=
  ∀ (i : Instr) (s t : State), Memory.wf s.mem = true → exec i s = .next t →
    (i.opcode.toNat < 0xF0 ∧ i.opcode.toNat % 4 = 0 ∧ s.gates.g5 = true ∧ t.phase = .fetch →
      ∀ a : Word, a ≠ ea s i.highByte i.lowByte → a ≠ ea s i.highByte i.lowByte + 1 →
        memRead1 t.mem a.toNat = memRead1 s.mem a.toNat) ∧
    (¬ (i.opcode.toNat < 0xF0 ∧ i.opcode.toNat % 4 = 0 ∧ s.gates.g5 = true ∧ t.phase = .fetch) →
      ∀ a : Word, memRead1 t.mem a.toNat = memRead1 s.mem a.toNat)

/-- T9: in every step from every state, with gate 5 cut the memory, with gate 1 cut AX and the flags, with gate 2 cut SI do not
change (R272, R273, R276); the gates never change (R30, the spec's decision D3, notes/assumptions/6.md). -/
def Obligations.CutGatesFreezeState : Prop :=
  ∀ s t : State, step s = .next t →
    t.gates = s.gates ∧
    (s.gates.g5 = false → t.mem = s.mem) ∧
    (s.gates.g1 = false → t.ax = s.ax ∧ t.wires.w8 = s.wires.w8 ∧ t.wires.w9 = s.wires.w9) ∧
    (s.gates.g2 = false → t.si = s.si)

/-- T9: with gate 7 cut, after `n` cycles that all completed, IP has advanced by `3 n` modulo 65536 (R278). -/
def Obligations.GateSevenCutWalksByThree : Prop :=
  ∀ (n : Nat) (s t : State), s.phase = .fetch → s.gates.g7 = false →
    Sys2Proof.core.run n s = .next t → t.phase = .fetch → t.ip = s.ip + BitVec.ofNat 16 (3 * n)

/-- With gate 4 cut bit 2 of the opcode loses its meaning in rows 0 to E: an immediate form does what the memory form of the same
family and destination does; only the latched opcode and the raw wire 4 differ (R275). -/
def Obligations.GateFourCutMakesImmediateMemory : Prop :=
  ∀ (s : State) (op ah al : Byte), op.toNat < 0xF0 → s.gates.g4 = false →
    ∃ t : State, exec (decodeWord (op &&& 0xFB) ah al) s = .next t ∧
      exec (decodeWord op ah al) s = .next { t with op := op, wires := { t.wires with w4 := op.getLsbD 2 } }

/-- With gate 6 cut every opcode of rows 0 to E does what the SGN instruction of the same low nibble does; only the latched
opcode differs (R277). -/
def Obligations.GateSixCutMakesEveryRowSgn : Prop :=
  ∀ (s : State) (op ah al : Byte), op.toNat < 0xF0 → s.gates.g6 = false →
    ∃ t : State, exec (decodeWord (op &&& 0x0F) ah al) s = .next t ∧
      exec (decodeWord op ah al) s = .next { t with op := op }

/-- T8: bit 3 of an opcode below 0xF0 is ignored: `OP` and `OP XOR 8` have the same next state but for the latched opcode byte
itself (R99). -/
def Obligations.BitThreeIsIgnored : Prop :=
  ∀ (s : State) (op ah al : Byte), op.toNat < 0xF0 →
    ∃ t : State, exec (decodeWord op ah al) s = .next t ∧
      exec (decodeWord (op ^^^ 8) ah al) s = .next { t with op := op ^^^ 8 }

/-- T11: JMPB has exactly the effect of JMP, in every state and configuration; only the latched opcode byte differs (R242). -/
def Obligations.JmpbIsJmp : Prop :=
  ∀ (s : State) (ah al : Byte),
    ∃ t : State, exec (.jmp ah al) s = .next t ∧ exec (.jmpb ah al) s = .next { t with op := 0xF4 }

/-- Nothing reads the latches or the raw wires 0 to 7 of an earlier cycle: a step from FETCH is the same whatever they hold
(R27, R37, R39). -/
def Obligations.LatchesDoNotCrossCycles : Prop :=
  ∀ s s' : State, s.phase = .fetch → s'.phase = .fetch → s.ax = s'.ax → s.si = s'.si → s.ip = s'.ip →
    s.mem = s'.mem → s.gates = s'.gates →
    s.wires.w8 = s'.wires.w8 → s.wires.w9 = s'.wires.w9 → s.wires.w10 = s'.wires.w10 →
    step s = step s'

/-- T6: with all gates enabled, after a completed instruction whose low two opcode bits are not 2, or of row F, SI is 0: SI is a
one-shot index (R139, R335). -/
def Obligations.IndexIsUsedUp : Prop :=
  ∀ s t : State, s.phase = .fetch → s.gates = Config.allEnabled → step s = .next t → t.phase = .fetch →
    ((memRead1 s.mem s.ip.toNat).toNat % 4 ≠ 2 ∨ 0xF0 ≤ (memRead1 s.mem s.ip.toNat).toNat) → t.si = 0

/-- A store is seen by the very next fetch (R78, R341): after any instruction that stores, the three bytes fetched next are
those in memory before, with the high half of the stored value in place of the byte at the operand address and the low half in
place of the byte after it, wherever they fall: at the address bytes or the opcode of the next instruction, across its ends,
or elsewhere. The instructions that store are all encodings of SGNM, SGNMI, MOVM, MOVMI, ADDM, ADDMI, SUBM and SUBMI, and with
gate 6 cut the reserved opcodes of the low nibbles 0, 4, 8 and C (R261). The stored value is `Claims.storedValue` (R135, R141
to R146). Byte order by the spec's decision D1 (notes/assumptions/4.md), the selector by its D6 (R130, notes/assumptions/8.md),
the operand address by its D9 (notes/assumptions/10.md), the flags `signAdjust` reads by its D16 (notes/assumptions/11.md);
the negation is R13's (PRESUMED, notes/assumptions/17.md). -/
def Obligations.StoreIsSeenByTheNextFetch : Prop :=
  ∀ (i : Instr) (s : State), s.gates.g0 = true → s.gates.g5 = true → Memory.wf s.mem = true →
    i.opcode.toNat % 4 = 0 → i.opcode.toNat < 0x40 ∨ (i.opcode.toNat < 0xF0 ∧ s.gates.g6 = false) →
    let a := ea s i.highByte i.lowByte
    let r := storedValue s i
    let after : Word → Byte := fun c =>
      if c = a then highHalf r else if c = a + 1 then lowHalf r else memRead1 s.mem c.toNat
    ∃ t : State, exec i s = .next t ∧ t.phase = .fetch ∧ t.ip = s.ip + 3 ∧
      t.fetchBytes = [after (s.ip + 3), after (s.ip + 4), after (s.ip + 5)]

/-! ### The host's side of the interface -/

/-- Gate `k` is cut exactly when position `k` of the configuration string holds '0'; with no string every gate is enabled (R30,
R363; the last clause is the spec's decision D3, notes/assumptions/6.md). -/
def Obligations.ConfigurationStringSetsGates : Prop :=
  (∀ (bits : List Char) (k : Fin 11), k ≠ 10 →
    (gateOf (gatesFor (some bits)) k = false ↔ bits[k.val]? = some '0')) ∧
  (∀ k : Fin 11, k ≠ 10 → gateOf (gatesFor none) k = true)

/-- Boot: an image of at most 65536 bytes stands in memory from address 0, every other cell is 0, the registers and IP are 0,
both flags false, the phase FETCH, the gates as configured; a longer image starts no run (R80, R332, R364). The flags are the
spec's decision D2 (notes/assumptions/5.md). -/
def Obligations.BootLoadsTheImage : Prop :=
  ∀ (config : Option (List Char)) (image : List Byte),
    (65536 < image.length → boot config image = none) ∧
    (image.length ≤ 65536 →
      ∃ s : State, boot config image = some s ∧ s.ax = 0 ∧ s.si = 0 ∧ s.ip = 0 ∧ s.phase = .fetch ∧
        s.wires.w8 = false ∧ s.wires.w9 = false ∧ s.gates = gatesFor config ∧ Memory.wf s.mem = true ∧
        ∀ k : Nat, k < 65536 → memRead1 s.mem k = image.getD k 0)

/-- The three outcomes of a run under a budget of `n` cycles are exactly what they say (R367, R369): HALTED and FAULTED name the
state in HALT or FAULT that some number of cycles within the budget leads to, BUDGET EXCEEDED the state in FETCH that `n`
whole cycles lead to; each state is reached. Where the budget is looked at is the model's choice
(notes/assumptions/14.md). -/
def Obligations.RunOutcomesAreDistinct : Prop :=
  ∀ (n : Nat) (s : State), s.AtBoundary →
    (match runFor n s with
      | .halted t => t.phase = .halt ∧ Reaches s t
      | .faulted t => t.phase = .fault ∧ Reaches s t
      | .budgetExceeded t => t.phase = .fetch ∧ Reaches s t) ∧
    (∀ t : State, runFor n s = .halted t ↔ t.phase = .halt ∧ ∃ k : Nat, k ≤ n ∧ Sys2Proof.core.run k s = .next t) ∧
    (∀ t : State, runFor n s = .faulted t ↔ t.phase = .fault ∧ ∃ k : Nat, k ≤ n ∧ Sys2Proof.core.run k s = .next t) ∧
    (∀ t : State, runFor n s = .budgetExceeded t ↔ t.phase = .fetch ∧ Sys2Proof.core.run n s = .next t)

/-- A run that ended in HALT or FAULT ends the same way, in the same state, under any larger budget (R367, R369). -/
def Obligations.LargerBudgetKeepsTheOutcome : Prop :=
  ∀ (n k : Nat) (s t : State),
    (runFor n s = .halted t → runFor (n + k) s = .halted t) ∧
    (runFor n s = .faulted t → runFor (n + k) s = .faulted t)

/-- A cycle that ends in HALT or FAULT leaves all the host can read, IP, AX, SI and the memory, as it was; IP is the address of
the halting or the faulting opcode: after a fault that byte's high nibble is a reserved selector, after a halt the byte is
0xFF or gate 0 is cut (R367, R368; R133 for the halt). That a cycle ending in FAULT leaves them as they were is the spec's
decision D4 (R302, notes/assumptions/3.md). -/
def Obligations.LastCycleIsInvisible : Prop :=
  ∀ s t : State, s.phase = .fetch → step s = .next t → t.Terminal →
    t.observe = s.observe ∧
    (t.phase = .fault → 4 ≤ (memRead1 t.mem t.ip.toNat).toNat / 16 ∧ (memRead1 t.mem t.ip.toNat).toNat / 16 ≤ 14) ∧
    (t.phase = .halt → memRead1 t.mem t.ip.toNat = 0xFF ∨ t.gates.g0 = false)

/-- HALT and FAULT are kept apart: a run that reaches FAULT reaches no HALT (R303). -/
def Obligations.FaultingRunDoesNotHalt : Prop :=
  ∀ s t : State, Reaches s t → t.phase = .fault → ¬ HaltsFrom s

/-- The loader reads a program text of two-digit tokens, one for each byte, as exactly those bytes, and refuses it when there
are more than 65536, with the token that exceeds the size and its line (R107, R364). That the digits are upper case is the
model's choice (notes/assumptions/23.md), and so is which token is reported (notes/assumptions/25.md). -/
def Obligations.LoaderReadsHexText : Prop :=
  ∀ bytes : List Byte,
    loadText (hexText bytes) =
      match bytes[65536]? with
      | none => .ok bytes
      | some b => .error (.tooLong (hexByte b) 1)

/-- A program text that loads is booted as its image, which fits; one that does not load starts no run (R332, R364). -/
def Obligations.LoadedTextBoots : Prop :=
  ∀ (config : Option (List Char)) (text : List Char),
    (∀ image : List Byte, loadText text = .ok image →
      image.length ≤ 65536 ∧ ∃ s : State, bootText config text = .ok s ∧ boot config image = some s) ∧
    (∀ e : LoadError, loadText text = .error e → bootText config text = .error e)
end

