-- ==== Sys2Proof/Laws/Arith.lean ====
section
/-! SUPPORT. Laws/Arith.lean: reduction modulo 65536 and the halves of a word, as operations on 16-bit words. -/

namespace Sys2Proof.Machine

@[simp] theorem mod65536_natCast (n : Nat) : mod65536 (n : Int) = BitVec.ofNat 16 n :=
  BitVec.ofInt_natCast 16 n

@[simp] theorem mod65536_toNat (v : Word) : mod65536 (v.toNat : Int) = v := by
  rw [mod65536_natCast, BitVec.ofNat_toNat, BitVec.setWidth_eq]

theorem mod65536_add (a b : Int) : mod65536 (a + b) = mod65536 a + mod65536 b := BitVec.ofInt_add a b

theorem mod65536_sub (a b : Int) : mod65536 (a - b) = mod65536 a - mod65536 b := by
  rw [Int.sub_eq_add_neg, mod65536_add, BitVec.sub_eq_add_neg, mod65536, mod65536, BitVec.ofInt_neg, ← mod65536, ← mod65536]

/-- Reduction is idempotent (00_scope.md R9). -/
theorem mod65536_idem (x : Int) : mod65536 ((mod65536 x).toNat : Int) = mod65536 x := mod65536_toNat _

/-- Reading or writing at a word's successor: the address wraps (20_memory.md R69). -/
@[simp] theorem mod65536_toNat_add (v : Word) (n : Nat) :
    mod65536 ((v.toNat : Int) + (n : Int)) = v + BitVec.ofNat 16 n := by
  rw [mod65536_add, mod65536_toNat, mod65536_natCast]

@[simp] theorem mod65536_toNat_succ (v : Word) : mod65536 ((v.toNat : Int) + 1) = v + 1 :=
  mod65536_toNat_add v 1

@[simp] theorem mod65536_toNat_add_toNat (v w : Word) : mod65536 ((v.toNat : Int) + w.toNat) = v + w := by
  rw [mod65536_add, mod65536_toNat, mod65536_toNat]

@[simp] theorem mod65536_toNat_sub_toNat (v w : Word) : mod65536 ((v.toNat : Int) - w.toNat) = v - w := by
  rw [mod65536_sub, mod65536_toNat, mod65536_toNat]

/-- `neg16` is the negation of 16-bit words (00_scope.md R13). -/
@[simp] theorem neg16_eq (x : Word) : neg16 x = -x := by
  rw [neg16, mod65536_sub, mod65536_toNat, ← BitVec.zero_sub]; rfl

@[simp] theorem ofHalves_halves (v : Word) : ofHalves (highHalf v) (lowHalf v) = v := by
  unfold ofHalves highHalf lowHalf
  exact (BitVec.extractLsb'_append_extractLsb'_eq_extractLsb' (w := 16) (by rfl)).trans BitVec.extractLsb'_eq_self

@[simp] theorem highHalf_ofHalves (hi lo : Byte) : highHalf (ofHalves hi lo) = hi := by
  unfold ofHalves highHalf
  rw [BitVec.extractLsb'_append_eq_left]

@[simp] theorem lowHalf_ofHalves (hi lo : Byte) : lowHalf (ofHalves hi lo) = lo := by
  unfold ofHalves lowHalf
  rw [BitVec.extractLsb'_append_eq_right]

theorem positiveFlag_eq (r : Word) : positiveFlag r = decide (r ≠ 0) := by
  unfold positiveFlag
  congr 1
  rw [eq_iff_iff, gt_iff_lt, Nat.pos_iff_ne_zero, ne_eq, ne_eq, ← BitVec.toNat_inj]; rfl

theorem zeroFlag_eq (r : Word) : zeroFlag r = decide (r = 0) := by
  unfold zeroFlag
  congr 1
  rw [eq_iff_iff, ← BitVec.toNat_inj]; rfl

end Sys2Proof.Machine
end

