-- ==== Sys2Proof/Laws/State.lean ====
section
/-! SUPPORT. Laws/State.lean: what each operation on the state does to each field, so that no later proof unfolds a record
update. -/

namespace Sys2Proof.Machine

/-! ### `latchWord` -/

@[simp] theorem latchWord_ax (op ah al : Byte) (s : State) : (s.latchWord op ah al).ax = s.ax := rfl
@[simp] theorem latchWord_si (op ah al : Byte) (s : State) : (s.latchWord op ah al).si = s.si := rfl
@[simp] theorem latchWord_ip (op ah al : Byte) (s : State) : (s.latchWord op ah al).ip = s.ip := rfl
@[simp] theorem latchWord_wires (op ah al : Byte) (s : State) : (s.latchWord op ah al).wires = s.wires := rfl
@[simp] theorem latchWord_gates (op ah al : Byte) (s : State) : (s.latchWord op ah al).gates = s.gates := rfl
@[simp] theorem latchWord_mem (op ah al : Byte) (s : State) : (s.latchWord op ah al).mem = s.mem := rfl
@[simp] theorem latchWord_phase (op ah al : Byte) (s : State) : (s.latchWord op ah al).phase = .decode := rfl
@[simp] theorem latchWord_op (op ah al : Byte) (s : State) : (s.latchWord op ah al).op = op := rfl
@[simp] theorem latchWord_ah (op ah al : Byte) (s : State) : (s.latchWord op ah al).ah = ah := rfl
@[simp] theorem latchWord_al (op ah al : Byte) (s : State) : (s.latchWord op ah al).al = al := rfl
@[simp] theorem latchWord_ea (op ah al : Byte) (s : State) : (s.latchWord op ah al).ea = effectiveAddress ah al s.si := rfl

/-! ### `decodePhase` -/

@[simp] theorem decodePhase_ax (s : State) : (s.decodePhase).ax = s.ax := rfl
@[simp] theorem decodePhase_si (s : State) : (s.decodePhase).si = s.si := rfl
@[simp] theorem decodePhase_ip (s : State) : (s.decodePhase).ip = s.ip := rfl
@[simp] theorem decodePhase_wires (s : State) : (s.decodePhase).wires = decodeWires s.op (s.eff 8) (s.eff 9) s.wires := rfl
@[simp] theorem decodePhase_gates (s : State) : (s.decodePhase).gates = s.gates := rfl
@[simp] theorem decodePhase_mem (s : State) : (s.decodePhase).mem = s.mem := rfl
@[simp] theorem decodePhase_phase (s : State) : (s.decodePhase).phase = .checkRun := rfl
@[simp] theorem decodePhase_op (s : State) : (s.decodePhase).op = s.op := rfl
@[simp] theorem decodePhase_ah (s : State) : (s.decodePhase).ah = s.ah := rfl
@[simp] theorem decodePhase_al (s : State) : (s.decodePhase).al = s.al := rfl
@[simp] theorem decodePhase_ea (s : State) : (s.decodePhase).ea = s.ea := rfl

/-! ### `enterHalt` -/

@[simp] theorem enterHalt_ax (s : State) : (s.enterHalt).ax = s.ax := rfl
@[simp] theorem enterHalt_si (s : State) : (s.enterHalt).si = s.si := rfl
@[simp] theorem enterHalt_ip (s : State) : (s.enterHalt).ip = s.ip := rfl
@[simp] theorem enterHalt_wires (s : State) : (s.enterHalt).wires = s.wires := rfl
@[simp] theorem enterHalt_gates (s : State) : (s.enterHalt).gates = s.gates := rfl
@[simp] theorem enterHalt_mem (s : State) : (s.enterHalt).mem = s.mem := rfl
@[simp] theorem enterHalt_phase (s : State) : (s.enterHalt).phase = .halt := rfl
@[simp] theorem enterHalt_op (s : State) : (s.enterHalt).op = s.op := rfl
@[simp] theorem enterHalt_ah (s : State) : (s.enterHalt).ah = s.ah := rfl
@[simp] theorem enterHalt_al (s : State) : (s.enterHalt).al = s.al := rfl
@[simp] theorem enterHalt_ea (s : State) : (s.enterHalt).ea = s.ea := rfl

/-! ### `enterFault` -/

@[simp] theorem enterFault_ax (s : State) : (s.enterFault).ax = s.ax := rfl
@[simp] theorem enterFault_si (s : State) : (s.enterFault).si = s.si := rfl
@[simp] theorem enterFault_ip (s : State) : (s.enterFault).ip = s.ip := rfl
@[simp] theorem enterFault_wires (s : State) : (s.enterFault).wires = s.wires := rfl
@[simp] theorem enterFault_gates (s : State) : (s.enterFault).gates = s.gates := rfl
@[simp] theorem enterFault_mem (s : State) : (s.enterFault).mem = s.mem := rfl
@[simp] theorem enterFault_phase (s : State) : (s.enterFault).phase = .fault := rfl
@[simp] theorem enterFault_op (s : State) : (s.enterFault).op = s.op := rfl
@[simp] theorem enterFault_ah (s : State) : (s.enterFault).ah = s.ah := rfl
@[simp] theorem enterFault_al (s : State) : (s.enterFault).al = s.al := rfl
@[simp] theorem enterFault_ea (s : State) : (s.enterFault).ea = s.ea := rfl

/-! ### `nextIp` -/

@[simp] theorem nextIp_ax (s : State) : (s.nextIp).ax = s.ax := rfl
@[simp] theorem nextIp_si (s : State) : (s.nextIp).si = s.si := rfl
@[simp] theorem nextIp_ip (s : State) : (s.nextIp).ip = if s.eff 7 then s.ea else mod65536 ((s.ip.toNat : Int) + Config.instrBytes) := rfl
@[simp] theorem nextIp_wires (s : State) : (s.nextIp).wires = s.wires := rfl
@[simp] theorem nextIp_gates (s : State) : (s.nextIp).gates = s.gates := rfl
@[simp] theorem nextIp_mem (s : State) : (s.nextIp).mem = s.mem := rfl
@[simp] theorem nextIp_phase (s : State) : (s.nextIp).phase = .fetch := rfl
@[simp] theorem nextIp_op (s : State) : (s.nextIp).op = s.op := rfl
@[simp] theorem nextIp_ah (s : State) : (s.nextIp).ah = s.ah := rfl
@[simp] theorem nextIp_al (s : State) : (s.nextIp).al = s.al := rfl
@[simp] theorem nextIp_ea (s : State) : (s.nextIp).ea = s.ea := rfl

/-! ### `writeBack` -/

@[simp] theorem writeBack_ax (r : Word) (s : State) :
    (s.writeBack r).ax = s.ax := by
  unfold State.writeBack; split <;> rfl
@[simp] theorem writeBack_si (r : Word) (s : State) :
    (s.writeBack r).si = s.si := by
  unfold State.writeBack; split <;> rfl
@[simp] theorem writeBack_ip (r : Word) (s : State) :
    (s.writeBack r).ip = s.ip := by
  unfold State.writeBack; split <;> rfl
@[simp] theorem writeBack_wires (r : Word) (s : State) :
    (s.writeBack r).wires = s.wires := by
  unfold State.writeBack; split <;> rfl
@[simp] theorem writeBack_gates (r : Word) (s : State) :
    (s.writeBack r).gates = s.gates := by
  unfold State.writeBack; split <;> rfl
@[simp] theorem writeBack_mem (r : Word) (s : State) :
    (s.writeBack r).mem = if s.eff 5 then memWrite2 s.mem s.ea.toNat r else s.mem := by
  unfold State.writeBack; split <;> rfl
@[simp] theorem writeBack_phase (r : Word) (s : State) :
    (s.writeBack r).phase = s.phase := by
  unfold State.writeBack; split <;> rfl
@[simp] theorem writeBack_op (r : Word) (s : State) :
    (s.writeBack r).op = s.op := by
  unfold State.writeBack; split <;> rfl
@[simp] theorem writeBack_ah (r : Word) (s : State) :
    (s.writeBack r).ah = s.ah := by
  unfold State.writeBack; split <;> rfl
@[simp] theorem writeBack_al (r : Word) (s : State) :
    (s.writeBack r).al = s.al := by
  unfold State.writeBack; split <;> rfl
@[simp] theorem writeBack_ea (r : Word) (s : State) :
    (s.writeBack r).ea = s.ea := by
  unfold State.writeBack; split <;> rfl

/-! ### `latchAx` -/

@[simp] theorem latchAx_ax (r : Word) (s : State) :
    (s.latchAx r).ax = if s.eff 1 then r else s.ax := by
  unfold State.latchAx; split <;> rfl
@[simp] theorem latchAx_si (r : Word) (s : State) :
    (s.latchAx r).si = s.si := by
  unfold State.latchAx; split <;> rfl
@[simp] theorem latchAx_ip (r : Word) (s : State) :
    (s.latchAx r).ip = s.ip := by
  unfold State.latchAx; split <;> rfl
@[simp] theorem latchAx_wires (r : Word) (s : State) :
    (s.latchAx r).wires = if s.eff 1 then { s.wires with w8 := positiveFlag r, w9 := zeroFlag r } else s.wires := by
  unfold State.latchAx; split <;> rfl
@[simp] theorem latchAx_gates (r : Word) (s : State) :
    (s.latchAx r).gates = s.gates := by
  unfold State.latchAx; split <;> rfl
@[simp] theorem latchAx_mem (r : Word) (s : State) :
    (s.latchAx r).mem = s.mem := by
  unfold State.latchAx; split <;> rfl
@[simp] theorem latchAx_phase (r : Word) (s : State) :
    (s.latchAx r).phase = s.phase := by
  unfold State.latchAx; split <;> rfl
@[simp] theorem latchAx_op (r : Word) (s : State) :
    (s.latchAx r).op = s.op := by
  unfold State.latchAx; split <;> rfl
@[simp] theorem latchAx_ah (r : Word) (s : State) :
    (s.latchAx r).ah = s.ah := by
  unfold State.latchAx; split <;> rfl
@[simp] theorem latchAx_al (r : Word) (s : State) :
    (s.latchAx r).al = s.al := by
  unfold State.latchAx; split <;> rfl
@[simp] theorem latchAx_ea (r : Word) (s : State) :
    (s.latchAx r).ea = s.ea := by
  unfold State.latchAx; split <;> rfl

/-! ### `latchSi` -/

@[simp] theorem latchSi_ax (r : Word) (s : State) :
    (s.latchSi r).ax = s.ax := by
  unfold State.latchSi; split <;> rfl
@[simp] theorem latchSi_si (r : Word) (s : State) :
    (s.latchSi r).si = if s.eff 2 then (if s.eff 3 then 0 else r) else s.si := by
  unfold State.latchSi; split <;> rfl
@[simp] theorem latchSi_ip (r : Word) (s : State) :
    (s.latchSi r).ip = s.ip := by
  unfold State.latchSi; split <;> rfl
@[simp] theorem latchSi_wires (r : Word) (s : State) :
    (s.latchSi r).wires = s.wires := by
  unfold State.latchSi; split <;> rfl
@[simp] theorem latchSi_gates (r : Word) (s : State) :
    (s.latchSi r).gates = s.gates := by
  unfold State.latchSi; split <;> rfl
@[simp] theorem latchSi_mem (r : Word) (s : State) :
    (s.latchSi r).mem = s.mem := by
  unfold State.latchSi; split <;> rfl
@[simp] theorem latchSi_phase (r : Word) (s : State) :
    (s.latchSi r).phase = s.phase := by
  unfold State.latchSi; split <;> rfl
@[simp] theorem latchSi_op (r : Word) (s : State) :
    (s.latchSi r).op = s.op := by
  unfold State.latchSi; split <;> rfl
@[simp] theorem latchSi_ah (r : Word) (s : State) :
    (s.latchSi r).ah = s.ah := by
  unfold State.latchSi; split <;> rfl
@[simp] theorem latchSi_al (r : Word) (s : State) :
    (s.latchSi r).al = s.al := by
  unfold State.latchSi; split <;> rfl
@[simp] theorem latchSi_ea (r : Word) (s : State) :
    (s.latchSi r).ea = s.ea := by
  unfold State.latchSi; split <;> rfl

/-! ### Effective wires and decoded wires -/

@[simp] theorem eff_0 (s : State) : s.eff 0 = (s.wires.w0 && s.gates.g0) := rfl
@[simp] theorem eff_1 (s : State) : s.eff 1 = (s.wires.w1 && s.gates.g1) := rfl
@[simp] theorem eff_2 (s : State) : s.eff 2 = (s.wires.w2 && s.gates.g2) := rfl
@[simp] theorem eff_3 (s : State) : s.eff 3 = (s.wires.w3 && s.gates.g3) := rfl
@[simp] theorem eff_4 (s : State) : s.eff 4 = (s.wires.w4 && s.gates.g4) := rfl
@[simp] theorem eff_5 (s : State) : s.eff 5 = (s.wires.w5 && s.gates.g5) := rfl
@[simp] theorem eff_6 (s : State) : s.eff 6 = (s.wires.w6 && s.gates.g6) := rfl
@[simp] theorem eff_7 (s : State) : s.eff 7 = (s.wires.w7 && s.gates.g7) := rfl
@[simp] theorem eff_8 (s : State) : s.eff 8 = (s.wires.w8 && s.gates.g8) := rfl
@[simp] theorem eff_9 (s : State) : s.eff 9 = (s.wires.w9 && s.gates.g9) := rfl

/-- `E(10)` is false, for every configuration and every opcode (10_state.md R29, R31). -/
@[simp] theorem eff_10 (s : State) : s.eff 10 = false := Bool.and_false _

@[simp] theorem decodeWires_w0 (op : Byte) (e8 e9 : Bool) (w : Wires) :
    (decodeWires op e8 e9 w).w0 = decide (op ≠ 0xFF) := rfl
@[simp] theorem decodeWires_w1 (op : Byte) (e8 e9 : Bool) (w : Wires) :
    (decodeWires op e8 e9 w).w1 = decide (fieldP op = 1) := rfl
@[simp] theorem decodeWires_w2 (op : Byte) (e8 e9 : Bool) (w : Wires) :
    (decodeWires op e8 e9 w).w2 = true := rfl
@[simp] theorem decodeWires_w3 (op : Byte) (e8 e9 : Bool) (w : Wires) :
    (decodeWires op e8 e9 w).w3 = decide (fieldP op ≠ 2) := rfl
@[simp] theorem decodeWires_w4 (op : Byte) (e8 e9 : Bool) (w : Wires) :
    (decodeWires op e8 e9 w).w4 = decide (fieldI op = 1) := rfl
@[simp] theorem decodeWires_w5 (op : Byte) (e8 e9 : Bool) (w : Wires) :
    (decodeWires op e8 e9 w).w5 = decide (fieldP op = 0) := rfl
@[simp] theorem decodeWires_w6 (op : Byte) (e8 e9 : Bool) (w : Wires) :
    (decodeWires op e8 e9 w).w6 = true := rfl
@[simp] theorem decodeWires_w7 (op : Byte) (e8 e9 : Bool) (w : Wires) :
    (decodeWires op e8 e9 w).w7 = (decide (op = 0xFE) || (decide (op = 0xF0) && e9) || decide (op = 0xF4) || (decide (op = 0xF1) && e8)) := rfl
@[simp] theorem decodeWires_w8 (op : Byte) (e8 e9 : Bool) (w : Wires) :
    (decodeWires op e8 e9 w).w8 = w.w8 := rfl
@[simp] theorem decodeWires_w9 (op : Byte) (e8 e9 : Bool) (w : Wires) :
    (decodeWires op e8 e9 w).w9 = w.w9 := rfl
@[simp] theorem decodeWires_w10 (op : Byte) (e8 e9 : Bool) (w : Wires) :
    (decodeWires op e8 e9 w).w10 = w.w10 := rfl

end Sys2Proof.Machine
end

