-- ==== Sys2Proof/Laws/Cycle.lean ====
section
/-! SUPPORT. Laws/Cycle.lean: everything the shared operations of a cycle can do, said once each. -/

namespace Sys2Proof.Machine

/-- EXECUTE steps 4 to 7 in one record (R137 to R140): each tests the wires as DECODE left them. -/
theorem commit_eq (r : Word) (s : State) :
    s.commit r =
      { s with
        mem := if s.wires.w5 && s.gates.g5 then memWrite2 s.mem s.ea.toNat r else s.mem
        ax := if s.wires.w1 && s.gates.g1 then r else s.ax
        wires :=
          if s.wires.w1 && s.gates.g1 then { s.wires with w8 := positiveFlag r, w9 := zeroFlag r } else s.wires
        si := if s.wires.w2 && s.gates.g2 then (if s.wires.w3 && s.gates.g3 then 0 else r) else s.si
        ip := if s.wires.w7 && s.gates.g7 then s.ea else mod65536 ((s.ip.toNat : Int) + Config.instrBytes)
        phase := .fetch } := by
  cases h5 : s.wires.w5 && s.gates.g5 <;> cases h1 : s.wires.w1 && s.gates.g1 <;>
    cases h2 : s.wires.w2 && s.gates.g2 <;>
    simp [State.commit, State.writeBack, State.latchAx, State.latchSi, State.nextIp, h5, h1, h2]

/-- What the ALU answers in EXECUTE, from the wires DECODE left (R134 to R136, R142). -/
theorem result_eq (s : State) :
    s.result = alu (s.wires.w8 && s.gates.g8) (s.wires.w9 && s.gates.g9)
      (if s.wires.w6 && s.gates.g6 then op4 s.op else 0) s.ax
      (if s.wires.w4 && s.gates.g4 then s.ea else memRead2 s.mem s.ea.toNat) := rfl

/-- CHECK-RUN and what follows it: a halt, a committed result or the fault (R120, R133, R136, R148). -/
theorem checkThenExecute_eq (s : State) :
    s.checkThenExecute =
      if s.wires.w0 && s.gates.g0 then
        match s.result with
        | some r => s.commit r
        | none => s.enterFault
      else s.enterHalt := by
  cases h : s.wires.w0 && s.gates.g0
  · simp [State.checkThenExecute, State.checkRunPhase, h]
  · have : s.checkRunPhase = { s with phase := .execute } := by simp [State.checkRunPhase, h]
    simp only [State.checkThenExecute, this, State.executePhase, if_true]
    rw [show ({ s with phase := .execute } : State).result = s.result from rfl]
    cases s.result <;> simp [commit_eq, State.enterFault]

/-- The state after FETCH of the word `op`, `ah`, `al` and DECODE. -/
theorem latchWord_decodePhase (op ah al : Byte) (s : State) :
    (s.latchWord op ah al).decodePhase =
      { s with
        op := op, ah := ah, al := al, ea := effectiveAddress ah al s.si, phase := .checkRun
        wires := decodeWires op (s.wires.w8 && s.gates.g8) (s.wires.w9 && s.gates.g9) s.wires } := rfl

/-- The ALU's answer in the cycle of the word `op`, `ah`, `al`. -/
theorem result_decoded (op ah al : Byte) (s : State) :
    (s.latchWord op ah al).decodePhase.result =
      alu (s.wires.w8 && s.gates.g8) (s.wires.w9 && s.gates.g9) (if s.gates.g6 then op4 op else 0) s.ax
        (if decide (fieldI op = 1) && s.gates.g4 then effectiveAddress ah al s.si
          else memRead2 s.mem (effectiveAddress ah al s.si).toNat) := by
  simp [result_eq]

/-- A whole cycle on the word `op`, `ah`, `al` (R150): a halt, a fault or a committed result, every field named. -/
theorem runWord_eq (op ah al : Byte) (s : State) :
    s.runWord op ah al =
      let d : State :=
        { s with
          op := op, ah := ah, al := al, ea := effectiveAddress ah al s.si
          wires := decodeWires op (s.wires.w8 && s.gates.g8) (s.wires.w9 && s.gates.g9) s.wires }
      if decide (op ≠ 0xFF) && s.gates.g0 then
        match (s.latchWord op ah al).decodePhase.result with
        | some r =>
          { d with
            mem := if decide (fieldP op = 0) && s.gates.g5 then memWrite2 s.mem d.ea.toNat r else s.mem
            ax := if decide (fieldP op = 1) && s.gates.g1 then r else s.ax
            wires :=
              if decide (fieldP op = 1) && s.gates.g1 then { d.wires with w8 := positiveFlag r, w9 := zeroFlag r }
              else d.wires
            si := if s.gates.g2 then (if decide (fieldP op ≠ 2) && s.gates.g3 then 0 else r) else s.si
            ip := if d.wires.w7 && s.gates.g7 then d.ea else mod65536 ((s.ip.toNat : Int) + Config.instrBytes)
            phase := .fetch }
        | none => { d with phase := .fault }
      else { d with phase := .halt } := by
  rw [State.runWord, checkThenExecute_eq]
  generalize (s.latchWord op ah al).decodePhase.result = o
  cases o <;> simp [commit_eq, State.enterFault, State.enterHalt, latchWord_decodePhase]

/-- A cycle ends in FETCH, HALT or FAULT (R120). -/
theorem runWord_phase (op ah al : Byte) (s : State) :
    (s.runWord op ah al).phase = .fetch ∨ (s.runWord op ah al).phase = .halt ∨ (s.runWord op ah al).phase = .fault := by
  rw [runWord_eq]
  dsimp only
  split
  · split <;> simp
  · simp

end Sys2Proof.Machine
end

