-- ==== Sys2Proof/Laws/Memory.lean ====
section
/-! SUPPORT. Laws/Memory.lean: reading after writing a cell, and that every memory operation keeps the canonical form. -/

namespace Sys2Proof.Machine

theorem Memory.wfFrom_cons (lo b : Nat) (v : Byte) (rest : Memory) :
    Memory.wfFrom lo ((b, v) :: rest) = true ↔
      lo ≤ b ∧ b < Config.memSize ∧ v ≠ Config.resetByte ∧ Memory.wfFrom (b + 1) rest = true := by
  simp [Memory.wfFrom, and_assoc]

theorem Memory.wfFrom_mono {lo lo' : Nat} (h : lo' ≤ lo) :
    ∀ {m : Memory}, Memory.wfFrom lo m = true → Memory.wfFrom lo' m = true
  | [], _ => rfl
  | (b, v) :: rest, hm => by
    rw [Memory.wfFrom_cons] at hm ⊢
    exact ⟨h.trans hm.1, hm.2⟩

/-- Below its first address a canonical memory lists nothing. -/
theorem Memory.cell_of_lt {a : Nat} :
    ∀ {lo : Nat} {m : Memory}, Memory.wfFrom lo m = true → a < lo → Memory.cell m a = Config.resetByte
  | _, [], _, _ => rfl
  | lo, (b, v) :: rest, hm, ha => by
    rw [Memory.wfFrom_cons] at hm
    rw [Memory.cell, if_neg (by omega)]
    exact Memory.cell_of_lt hm.2.2.2 (by omega)

/-- A cell reads what was written to it, every other cell what it read before (20_memory.md R64). -/
theorem Memory.cell_setCell (a : Nat) (v : Byte) (c : Nat) :
    ∀ {lo : Nat} {m : Memory}, Memory.wfFrom lo m = true →
      Memory.cell (Memory.setCell m a v) c = if c = a then v else Memory.cell m c
  | _, [], _ => by
    unfold Memory.setCell
    split
    · next hv => simp [Memory.cell, hv]
    · simp only [Memory.cell, eq_comm (a := c)]
  | lo, (b, w) :: rest, hm => by
    rw [Memory.wfFrom_cons] at hm
    have ih := Memory.cell_setCell a v c hm.2.2.2
    have below : ∀ x, x ≤ b → Memory.cell rest x = Config.resetByte :=
      fun x hx => Memory.cell_of_lt hm.2.2.2 (by omega)
    unfold Memory.setCell
    split
    · next hab =>
      have := below a (by omega)
      split <;> simp only [Memory.cell] <;> split_ifs <;> first | rfl | omega | simp_all
    · split
      · next hab =>
        subst hab
        have := below a (by omega)
        split <;> simp only [Memory.cell] <;> split_ifs <;> first | rfl | omega | simp_all
      · simp only [Memory.cell, ih]
        split_ifs <;> first | rfl | omega

theorem Memory.wfFrom_setCell {a : Nat} (ha : a < Config.memSize) (v : Byte) :
    ∀ {lo : Nat} {m : Memory}, Memory.wfFrom lo m = true → lo ≤ a →
      Memory.wfFrom lo (Memory.setCell m a v) = true
  | lo, [], _, hlo => by
    unfold Memory.setCell
    split
    · rfl
    · next hv => exact (Memory.wfFrom_cons ..).2 ⟨hlo, ha, hv, rfl⟩
  | lo, (b, w) :: rest, hm, hlo => by
    have h := (Memory.wfFrom_cons ..).1 hm
    unfold Memory.setCell
    split
    · next hab =>
      split
      · exact hm
      · next hv =>
        exact (Memory.wfFrom_cons ..).2
          ⟨hlo, ha, hv, (Memory.wfFrom_cons ..).2 ⟨by omega, h.2.1, h.2.2.1, h.2.2.2⟩⟩
    · split
      · next hab =>
        split
        · exact Memory.wfFrom_mono (by omega) h.2.2.2
        · next hv => exact (Memory.wfFrom_cons ..).2 ⟨hlo, ha, hv, by rw [hab]; exact h.2.2.2⟩
      · exact (Memory.wfFrom_cons ..).2
          ⟨h.1, h.2.1, h.2.2.1, Memory.wfFrom_setCell ha v h.2.2.2 (by omega)⟩

theorem wf_memWrite1 {m : Memory} (h : Memory.wf m = true) (a : Int) (b : Byte) :
    Memory.wf (memWrite1 m a b) = true :=
  Memory.wfFrom_setCell (mod65536 a).isLt b h (Nat.zero_le _)

theorem wf_memWrite2 {m : Memory} (h : Memory.wf m = true) (a : Int) (v : Word) :
    Memory.wf (memWrite2 m a v) = true :=
  wf_memWrite1 (wf_memWrite1 h _ _) _ _

theorem wf_bulkLoad : ∀ (bytes : List Byte) {m : Memory} (offset : Nat),
    Memory.wf m = true → Memory.wf (bulkLoad m offset bytes) = true
  | [], _, _, h => h
  | _ :: bytes, _, _, h => wf_bulkLoad bytes _ (wf_memWrite1 h _ _)

theorem wf_placeBytes : ∀ (bytes : List Byte) {m : Memory} (a : Nat),
    Memory.wf m = true → Memory.wf (placeBytes m a bytes) = true
  | [], _, _, h => h
  | _ :: bytes, _, _, h => wf_placeBytes bytes _ (wf_memWrite1 h _ _)

/-- The memory after reset is in canonical form. -/
theorem wf_reset : Memory.wf State.reset.mem = true := rfl

theorem memRead1_memWrite1 {m : Memory} (h : Memory.wf m = true) (a c : Int) (b : Byte) :
    memRead1 (memWrite1 m a b) c = if mod65536 c = mod65536 a then b else memRead1 m c := by
  rw [memRead1, memWrite1, Memory.cell_setCell _ _ _ h, memRead1]
  simp only [BitVec.toNat_inj]

end Sys2Proof.Machine
end

