-- ==== Sys2Proof/Laws/Loader.lean ====
section
/-! SUPPORT. Laws/Loader.lean: what the loader's operations can answer, said once each. -/

namespace Sys2Proof.Machine

@[simp] theorem bootImage_ax (c : Option (List Char)) (image : List Byte) : (bootImage c image).ax = 0 := rfl
@[simp] theorem bootImage_si (c : Option (List Char)) (image : List Byte) : (bootImage c image).si = 0 := rfl
@[simp] theorem bootImage_ip (c : Option (List Char)) (image : List Byte) : (bootImage c image).ip = 0 := rfl
@[simp] theorem bootImage_wires (c : Option (List Char)) (image : List Byte) :
    (bootImage c image).wires = Wires.reset := rfl
@[simp] theorem bootImage_gates (c : Option (List Char)) (image : List Byte) :
    (bootImage c image).gates = gatesFor c := rfl
@[simp] theorem bootImage_phase (c : Option (List Char)) (image : List Byte) : (bootImage c image).phase = .fetch := rfl
@[simp] theorem bootImage_mem (c : Option (List Char)) (image : List Byte) :
    (bootImage c image).mem = bulkLoad [] 0 image := rfl

theorem wf_bootImage (c : Option (List Char)) (image : List Byte) : Memory.wf (bootImage c image).mem = true :=
  wf_bulkLoad image 0 wf_reset

/-- A token that is read has no refusal of its own: its bytes are its digit pairs (R107). -/
theorem readToken_eq_ok {line : Nat} {token : List Char} {bytes : List Byte} (h : readToken line token = .ok bytes) :
    token.length % 2 = 0 ∧ pairBytes token = some bytes := by
  unfold readToken at h
  split at h
  · cases h
  · next hlen =>
    split at h
    · next hp => cases h; exact ⟨by omega, hp⟩
    · cases h

/-- A list of tokens that is read: its first token is read and fits, and so do the others in the room it leaves. -/
theorem readTokens_cons_eq_ok {room line : Nat} {token : List Char} {rest : List (Nat × List Char)} {image : List Byte}
    (h : readTokens room ((line, token) :: rest) = .ok image) :
    ∃ bytes tail : List Byte, readToken line token = .ok bytes ∧ bytes.length ≤ room ∧
      readTokens (room - bytes.length) rest = .ok tail ∧ image = bytes ++ tail := by
  unfold readTokens at h
  split at h
  · cases h
  · next bytes hb =>
    split at h
    · cases h
    · next hroom =>
      split at h
      · next tail ht => cases h; exact ⟨bytes, tail, hb, by omega, ht, rfl⟩
      · cases h

/-- What is read fits into the room (R364). -/
theorem length_le_of_readTokens : ∀ {tokens : List (Nat × List Char)} {room : Nat} {image : List Byte},
    readTokens room tokens = .ok image → image.length ≤ room
  | [], _, _, h => by cases h; exact Nat.zero_le _
  | (_, _) :: _, _, _, h => by
    obtain ⟨bytes, tail, _, hroom, ht, rfl⟩ := readTokens_cons_eq_ok h
    have := length_le_of_readTokens ht
    rw [List.length_append]
    omega

end Sys2Proof.Machine
end

