-- ==== Sys2Proof/Laws/PerInstr.lean ====
section
/-! SUPPORT. Laws/PerInstr.lean: one lemma per instruction: its opcode byte lies in its own row of spec/opcode_table.json, by that
row's `mask` and `match` (their bits 23 to 16; the sixteen bits below are operand bits in every row). -/

namespace Sys2Proof.Laws.InTableRow

/-- The opcode bits of the row's `mask`. -/
def rowMask : Instr → Byte
  | .sgnm _ _ _ => 0xF7
  | .sgna _ _ _ => 0xF7
  | .sgns _ _ _ => 0xF7
  | .sgnn _ _ _ => 0xF7
  | .sgnmi _ _ _ => 0xF7
  | .sgnai _ _ _ => 0xF7
  | .sgnsi _ _ _ => 0xF7
  | .sgnni _ _ _ => 0xF7
  | .movm _ _ _ => 0xF7
  | .mova _ _ _ => 0xF7
  | .movs _ _ _ => 0xF7
  | .movn _ _ _ => 0xF7
  | .movmi _ _ _ => 0xF7
  | .movai _ _ _ => 0xF7
  | .movsi _ _ _ => 0xF7
  | .movni _ _ _ => 0xF7
  | .addm _ _ _ => 0xF7
  | .adda _ _ _ => 0xF7
  | .adds _ _ _ => 0xF7
  | .addn _ _ _ => 0xF7
  | .addmi _ _ _ => 0xF7
  | .addai _ _ _ => 0xF7
  | .addsi _ _ _ => 0xF7
  | .addni _ _ _ => 0xF7
  | .subm _ _ _ => 0xF7
  | .suba _ _ _ => 0xF7
  | .subs _ _ _ => 0xF7
  | .subn _ _ _ => 0xF7
  | .submi _ _ _ => 0xF7
  | .subai _ _ _ => 0xF7
  | .subsi _ _ _ => 0xF7
  | .subni _ _ _ => 0xF7
  | .hlt _ _ => 0xFF
  | .jmp _ _ => 0xFF
  | .jmpb _ _ => 0xFF
  | .jz _ _ => 0xFF
  | .jp _ _ => 0xFF
  | .nopfF2 _ _ => 0xFF
  | .nopfF3 _ _ => 0xFF
  | .nopfF5 _ _ => 0xFF
  | .nopfF6 _ _ => 0xFF
  | .nopfF7 _ _ => 0xFF
  | .nopfF8 _ _ => 0xFF
  | .nopfF9 _ _ => 0xFF
  | .nopfFA _ _ => 0xFF
  | .nopfFB _ _ => 0xFF
  | .nopfFC _ _ => 0xFF
  | .nopfFD _ _ => 0xFF
  | .rsv4 _ _ _ => 0xF0
  | .rsv5 _ _ _ => 0xF0
  | .rsv6 _ _ _ => 0xF0
  | .rsv7 _ _ _ => 0xF0
  | .rsv8 _ _ _ => 0xF0
  | .rsv9 _ _ _ => 0xF0
  | .rsvA _ _ _ => 0xF0
  | .rsvB _ _ _ => 0xF0
  | .rsvC _ _ _ => 0xF0
  | .rsvD _ _ _ => 0xF0
  | .rsvE _ _ _ => 0xF0

/-- The opcode bits of the row's `match`. -/
def rowMatch : Instr → Byte
  | .sgnm _ _ _ => 0x00
  | .sgna _ _ _ => 0x01
  | .sgns _ _ _ => 0x02
  | .sgnn _ _ _ => 0x03
  | .sgnmi _ _ _ => 0x04
  | .sgnai _ _ _ => 0x05
  | .sgnsi _ _ _ => 0x06
  | .sgnni _ _ _ => 0x07
  | .movm _ _ _ => 0x10
  | .mova _ _ _ => 0x11
  | .movs _ _ _ => 0x12
  | .movn _ _ _ => 0x13
  | .movmi _ _ _ => 0x14
  | .movai _ _ _ => 0x15
  | .movsi _ _ _ => 0x16
  | .movni _ _ _ => 0x17
  | .addm _ _ _ => 0x20
  | .adda _ _ _ => 0x21
  | .adds _ _ _ => 0x22
  | .addn _ _ _ => 0x23
  | .addmi _ _ _ => 0x24
  | .addai _ _ _ => 0x25
  | .addsi _ _ _ => 0x26
  | .addni _ _ _ => 0x27
  | .subm _ _ _ => 0x30
  | .suba _ _ _ => 0x31
  | .subs _ _ _ => 0x32
  | .subn _ _ _ => 0x33
  | .submi _ _ _ => 0x34
  | .subai _ _ _ => 0x35
  | .subsi _ _ _ => 0x36
  | .subni _ _ _ => 0x37
  | .hlt _ _ => 0xFF
  | .jmp _ _ => 0xFE
  | .jmpb _ _ => 0xF4
  | .jz _ _ => 0xF0
  | .jp _ _ => 0xF1
  | .nopfF2 _ _ => 0xF2
  | .nopfF3 _ _ => 0xF3
  | .nopfF5 _ _ => 0xF5
  | .nopfF6 _ _ => 0xF6
  | .nopfF7 _ _ => 0xF7
  | .nopfF8 _ _ => 0xF8
  | .nopfF9 _ _ => 0xF9
  | .nopfFA _ _ => 0xFA
  | .nopfFB _ _ => 0xFB
  | .nopfFC _ _ => 0xFC
  | .nopfFD _ _ => 0xFD
  | .rsv4 _ _ _ => 0x40
  | .rsv5 _ _ _ => 0x50
  | .rsv6 _ _ _ => 0x60
  | .rsv7 _ _ _ => 0x70
  | .rsv8 _ _ _ => 0x80
  | .rsv9 _ _ _ => 0x90
  | .rsvA _ _ _ => 0xA0
  | .rsvB _ _ _ => 0xB0
  | .rsvC _ _ _ => 0xC0
  | .rsvD _ _ _ => 0xD0
  | .rsvE _ _ _ => 0xE0

/-- The opcode byte of `i` has the fixed bits of its row. -/
def Statement (i : Instr) : Prop := i.opcode &&& rowMask i = rowMatch i

theorem sgnm (b3 : Bool) (ah al : Byte) : Statement (.sgnm b3 ah al) :=
  (by decide : ∀ b3, rowOpcode 0 b3 0 &&& 0xF7 = 0x00) b3
theorem sgna (b3 : Bool) (ah al : Byte) : Statement (.sgna b3 ah al) :=
  (by decide : ∀ b3, rowOpcode 0 b3 1 &&& 0xF7 = 0x01) b3
theorem sgns (b3 : Bool) (ah al : Byte) : Statement (.sgns b3 ah al) :=
  (by decide : ∀ b3, rowOpcode 0 b3 2 &&& 0xF7 = 0x02) b3
theorem sgnn (b3 : Bool) (ah al : Byte) : Statement (.sgnn b3 ah al) :=
  (by decide : ∀ b3, rowOpcode 0 b3 3 &&& 0xF7 = 0x03) b3
theorem sgnmi (b3 : Bool) (ah al : Byte) : Statement (.sgnmi b3 ah al) :=
  (by decide : ∀ b3, rowOpcode 0 b3 4 &&& 0xF7 = 0x04) b3
theorem sgnai (b3 : Bool) (ah al : Byte) : Statement (.sgnai b3 ah al) :=
  (by decide : ∀ b3, rowOpcode 0 b3 5 &&& 0xF7 = 0x05) b3
theorem sgnsi (b3 : Bool) (ah al : Byte) : Statement (.sgnsi b3 ah al) :=
  (by decide : ∀ b3, rowOpcode 0 b3 6 &&& 0xF7 = 0x06) b3
theorem sgnni (b3 : Bool) (ah al : Byte) : Statement (.sgnni b3 ah al) :=
  (by decide : ∀ b3, rowOpcode 0 b3 7 &&& 0xF7 = 0x07) b3
theorem movm (b3 : Bool) (ah al : Byte) : Statement (.movm b3 ah al) :=
  (by decide : ∀ b3, rowOpcode 1 b3 0 &&& 0xF7 = 0x10) b3
theorem mova (b3 : Bool) (ah al : Byte) : Statement (.mova b3 ah al) :=
  (by decide : ∀ b3, rowOpcode 1 b3 1 &&& 0xF7 = 0x11) b3
theorem movs (b3 : Bool) (ah al : Byte) : Statement (.movs b3 ah al) :=
  (by decide : ∀ b3, rowOpcode 1 b3 2 &&& 0xF7 = 0x12) b3
theorem movn (b3 : Bool) (ah al : Byte) : Statement (.movn b3 ah al) :=
  (by decide : ∀ b3, rowOpcode 1 b3 3 &&& 0xF7 = 0x13) b3
theorem movmi (b3 : Bool) (ah al : Byte) : Statement (.movmi b3 ah al) :=
  (by decide : ∀ b3, rowOpcode 1 b3 4 &&& 0xF7 = 0x14) b3
theorem movai (b3 : Bool) (ah al : Byte) : Statement (.movai b3 ah al) :=
  (by decide : ∀ b3, rowOpcode 1 b3 5 &&& 0xF7 = 0x15) b3
theorem movsi (b3 : Bool) (ah al : Byte) : Statement (.movsi b3 ah al) :=
  (by decide : ∀ b3, rowOpcode 1 b3 6 &&& 0xF7 = 0x16) b3
theorem movni (b3 : Bool) (ah al : Byte) : Statement (.movni b3 ah al) :=
  (by decide : ∀ b3, rowOpcode 1 b3 7 &&& 0xF7 = 0x17) b3
theorem addm (b3 : Bool) (ah al : Byte) : Statement (.addm b3 ah al) :=
  (by decide : ∀ b3, rowOpcode 2 b3 0 &&& 0xF7 = 0x20) b3
theorem adda (b3 : Bool) (ah al : Byte) : Statement (.adda b3 ah al) :=
  (by decide : ∀ b3, rowOpcode 2 b3 1 &&& 0xF7 = 0x21) b3
theorem adds (b3 : Bool) (ah al : Byte) : Statement (.adds b3 ah al) :=
  (by decide : ∀ b3, rowOpcode 2 b3 2 &&& 0xF7 = 0x22) b3
theorem addn (b3 : Bool) (ah al : Byte) : Statement (.addn b3 ah al) :=
  (by decide : ∀ b3, rowOpcode 2 b3 3 &&& 0xF7 = 0x23) b3
theorem addmi (b3 : Bool) (ah al : Byte) : Statement (.addmi b3 ah al) :=
  (by decide : ∀ b3, rowOpcode 2 b3 4 &&& 0xF7 = 0x24) b3
theorem addai (b3 : Bool) (ah al : Byte) : Statement (.addai b3 ah al) :=
  (by decide : ∀ b3, rowOpcode 2 b3 5 &&& 0xF7 = 0x25) b3
theorem addsi (b3 : Bool) (ah al : Byte) : Statement (.addsi b3 ah al) :=
  (by decide : ∀ b3, rowOpcode 2 b3 6 &&& 0xF7 = 0x26) b3
theorem addni (b3 : Bool) (ah al : Byte) : Statement (.addni b3 ah al) :=
  (by decide : ∀ b3, rowOpcode 2 b3 7 &&& 0xF7 = 0x27) b3
theorem subm (b3 : Bool) (ah al : Byte) : Statement (.subm b3 ah al) :=
  (by decide : ∀ b3, rowOpcode 3 b3 0 &&& 0xF7 = 0x30) b3
theorem suba (b3 : Bool) (ah al : Byte) : Statement (.suba b3 ah al) :=
  (by decide : ∀ b3, rowOpcode 3 b3 1 &&& 0xF7 = 0x31) b3
theorem subs (b3 : Bool) (ah al : Byte) : Statement (.subs b3 ah al) :=
  (by decide : ∀ b3, rowOpcode 3 b3 2 &&& 0xF7 = 0x32) b3
theorem subn (b3 : Bool) (ah al : Byte) : Statement (.subn b3 ah al) :=
  (by decide : ∀ b3, rowOpcode 3 b3 3 &&& 0xF7 = 0x33) b3
theorem submi (b3 : Bool) (ah al : Byte) : Statement (.submi b3 ah al) :=
  (by decide : ∀ b3, rowOpcode 3 b3 4 &&& 0xF7 = 0x34) b3
theorem subai (b3 : Bool) (ah al : Byte) : Statement (.subai b3 ah al) :=
  (by decide : ∀ b3, rowOpcode 3 b3 5 &&& 0xF7 = 0x35) b3
theorem subsi (b3 : Bool) (ah al : Byte) : Statement (.subsi b3 ah al) :=
  (by decide : ∀ b3, rowOpcode 3 b3 6 &&& 0xF7 = 0x36) b3
theorem subni (b3 : Bool) (ah al : Byte) : Statement (.subni b3 ah al) :=
  (by decide : ∀ b3, rowOpcode 3 b3 7 &&& 0xF7 = 0x37) b3
theorem hlt (ah al : Byte) : Statement (.hlt ah al) :=
  (by decide : ((0xFF : Byte) &&& 0xFF) = 0xFF)
theorem jmp (ah al : Byte) : Statement (.jmp ah al) :=
  (by decide : ((0xFE : Byte) &&& 0xFF) = 0xFE)
theorem jmpb (ah al : Byte) : Statement (.jmpb ah al) :=
  (by decide : ((0xF4 : Byte) &&& 0xFF) = 0xF4)
theorem jz (ah al : Byte) : Statement (.jz ah al) :=
  (by decide : ((0xF0 : Byte) &&& 0xFF) = 0xF0)
theorem jp (ah al : Byte) : Statement (.jp ah al) :=
  (by decide : ((0xF1 : Byte) &&& 0xFF) = 0xF1)
theorem nopfF2 (ah al : Byte) : Statement (.nopfF2 ah al) :=
  (by decide : ((0xF2 : Byte) &&& 0xFF) = 0xF2)
theorem nopfF3 (ah al : Byte) : Statement (.nopfF3 ah al) :=
  (by decide : ((0xF3 : Byte) &&& 0xFF) = 0xF3)
theorem nopfF5 (ah al : Byte) : Statement (.nopfF5 ah al) :=
  (by decide : ((0xF5 : Byte) &&& 0xFF) = 0xF5)
theorem nopfF6 (ah al : Byte) : Statement (.nopfF6 ah al) :=
  (by decide : ((0xF6 : Byte) &&& 0xFF) = 0xF6)
theorem nopfF7 (ah al : Byte) : Statement (.nopfF7 ah al) :=
  (by decide : ((0xF7 : Byte) &&& 0xFF) = 0xF7)
theorem nopfF8 (ah al : Byte) : Statement (.nopfF8 ah al) :=
  (by decide : ((0xF8 : Byte) &&& 0xFF) = 0xF8)
theorem nopfF9 (ah al : Byte) : Statement (.nopfF9 ah al) :=
  (by decide : ((0xF9 : Byte) &&& 0xFF) = 0xF9)
theorem nopfFA (ah al : Byte) : Statement (.nopfFA ah al) :=
  (by decide : ((0xFA : Byte) &&& 0xFF) = 0xFA)
theorem nopfFB (ah al : Byte) : Statement (.nopfFB ah al) :=
  (by decide : ((0xFB : Byte) &&& 0xFF) = 0xFB)
theorem nopfFC (ah al : Byte) : Statement (.nopfFC ah al) :=
  (by decide : ((0xFC : Byte) &&& 0xFF) = 0xFC)
theorem nopfFD (ah al : Byte) : Statement (.nopfFD ah al) :=
  (by decide : ((0xFD : Byte) &&& 0xFF) = 0xFD)
theorem rsv4 (low : BitVec 4) (ah al : Byte) : Statement (.rsv4 low ah al) :=
  (by decide : ∀ low : BitVec 4, nibblesOpcode 0x4 low &&& 0xF0 = 0x40) low
theorem rsv5 (low : BitVec 4) (ah al : Byte) : Statement (.rsv5 low ah al) :=
  (by decide : ∀ low : BitVec 4, nibblesOpcode 0x5 low &&& 0xF0 = 0x50) low
theorem rsv6 (low : BitVec 4) (ah al : Byte) : Statement (.rsv6 low ah al) :=
  (by decide : ∀ low : BitVec 4, nibblesOpcode 0x6 low &&& 0xF0 = 0x60) low
theorem rsv7 (low : BitVec 4) (ah al : Byte) : Statement (.rsv7 low ah al) :=
  (by decide : ∀ low : BitVec 4, nibblesOpcode 0x7 low &&& 0xF0 = 0x70) low
theorem rsv8 (low : BitVec 4) (ah al : Byte) : Statement (.rsv8 low ah al) :=
  (by decide : ∀ low : BitVec 4, nibblesOpcode 0x8 low &&& 0xF0 = 0x80) low
theorem rsv9 (low : BitVec 4) (ah al : Byte) : Statement (.rsv9 low ah al) :=
  (by decide : ∀ low : BitVec 4, nibblesOpcode 0x9 low &&& 0xF0 = 0x90) low
theorem rsvA (low : BitVec 4) (ah al : Byte) : Statement (.rsvA low ah al) :=
  (by decide : ∀ low : BitVec 4, nibblesOpcode 0xA low &&& 0xF0 = 0xA0) low
theorem rsvB (low : BitVec 4) (ah al : Byte) : Statement (.rsvB low ah al) :=
  (by decide : ∀ low : BitVec 4, nibblesOpcode 0xB low &&& 0xF0 = 0xB0) low
theorem rsvC (low : BitVec 4) (ah al : Byte) : Statement (.rsvC low ah al) :=
  (by decide : ∀ low : BitVec 4, nibblesOpcode 0xC low &&& 0xF0 = 0xC0) low
theorem rsvD (low : BitVec 4) (ah al : Byte) : Statement (.rsvD low ah al) :=
  (by decide : ∀ low : BitVec 4, nibblesOpcode 0xD low &&& 0xF0 = 0xD0) low
theorem rsvE (low : BitVec 4) (ah al : Byte) : Statement (.rsvE low ah al) :=
  (by decide : ∀ low : BitVec 4, nibblesOpcode 0xE low &&& 0xF0 = 0xE0) low

end Sys2Proof.Laws.InTableRow
end

