-- ==== Sys2Proof/Laws/Step.lean ====
section
/-! SUPPORT. Laws/Step.lean: every meaning is the cycle on the instruction's own word, and what a step can be. -/

namespace Sys2Proof.Machine

/-- Every instruction's meaning is the cycle on its own three bytes (40_cycle_and_control_wires.md R150). -/
theorem exec_eq_runWord (i : Instr) (s : State) :
    exec i s = .next (s.runWord i.opcode i.highByte i.lowByte) := by
  cases i <;> rfl

/-- Every case of a step that answers a next state. -/
theorem step_cases {s t : State} (h : step s = .next t) :
    (s.phase = .fetch ∧ exec s.fetchInstr s = .next t) ∨
    (s.phase = .decode ∧ t = s.decodePhase.checkThenExecute) ∨
    (s.phase = .checkRun ∧ t = s.checkThenExecute) ∨
    (s.phase = .execute ∧ t = s.executePhase) := by
  unfold step at h
  cases hp : s.phase <;> rw [hp] at h <;> dsimp only at h
  · exact .inl ⟨rfl, h⟩
  · exact .inr (.inl ⟨rfl, (Host.Outcome.next.inj h).symm⟩)
  · exact .inr (.inr (.inl ⟨rfl, (Host.Outcome.next.inj h).symm⟩))
  · exact .inr (.inr (.inr ⟨rfl, (Host.Outcome.next.inj h).symm⟩))
  · cases h
  · cases h

end Sys2Proof.Machine
end

