-- ==== Sys2Proof/Machine/Listing.lean ====
section
/-! DEFINITION. Machine/Listing.lean: the spec's listing notation (30_encoding.md R105, R106, R109; its decision D7). A listing is
a reading of three bytes; it changes nothing in the machine. -/

namespace Sys2Proof.Machine

/-- The mnemonic of an instruction (R98, R100; a reserved opcode by its row, R109). -/
def mnemonic : Instr → String
  | .sgnm _ _ _ => "SGNM"
  | .sgna _ _ _ => "SGNA"
  | .sgns _ _ _ => "SGNS"
  | .sgnn _ _ _ => "SGNN"
  | .sgnmi _ _ _ => "SGNMI"
  | .sgnai _ _ _ => "SGNAI"
  | .sgnsi _ _ _ => "SGNSI"
  | .sgnni _ _ _ => "SGNNI"
  | .movm _ _ _ => "MOVM"
  | .mova _ _ _ => "MOVA"
  | .movs _ _ _ => "MOVS"
  | .movn _ _ _ => "MOVN"
  | .movmi _ _ _ => "MOVMI"
  | .movai _ _ _ => "MOVAI"
  | .movsi _ _ _ => "MOVSI"
  | .movni _ _ _ => "MOVNI"
  | .addm _ _ _ => "ADDM"
  | .adda _ _ _ => "ADDA"
  | .adds _ _ _ => "ADDS"
  | .addn _ _ _ => "ADDN"
  | .addmi _ _ _ => "ADDMI"
  | .addai _ _ _ => "ADDAI"
  | .addsi _ _ _ => "ADDSI"
  | .addni _ _ _ => "ADDNI"
  | .subm _ _ _ => "SUBM"
  | .suba _ _ _ => "SUBA"
  | .subs _ _ _ => "SUBS"
  | .subn _ _ _ => "SUBN"
  | .submi _ _ _ => "SUBMI"
  | .subai _ _ _ => "SUBAI"
  | .subsi _ _ _ => "SUBSI"
  | .subni _ _ _ => "SUBNI"
  | .hlt _ _ => "HLT"
  | .jmp _ _ => "JMP"
  | .jmpb _ _ => "JMPB"
  | .jz _ _ => "JZ"
  | .jp _ _ => "JP"
  | .nopfF2 _ _ => "NOPF"
  | .nopfF3 _ _ => "NOPF"
  | .nopfF5 _ _ => "NOPF"
  | .nopfF6 _ _ => "NOPF"
  | .nopfF7 _ _ => "NOPF"
  | .nopfF8 _ _ => "NOPF"
  | .nopfF9 _ _ => "NOPF"
  | .nopfFA _ _ => "NOPF"
  | .nopfFB _ _ => "NOPF"
  | .nopfFC _ _ => "NOPF"
  | .nopfFD _ _ => "NOPF"
  | .rsv4 _ _ _ => "RSV4"
  | .rsv5 _ _ _ => "RSV5"
  | .rsv6 _ _ _ => "RSV6"
  | .rsv7 _ _ _ => "RSV7"
  | .rsv8 _ _ _ => "RSV8"
  | .rsv9 _ _ _ => "RSV9"
  | .rsvA _ _ _ => "RSVA"
  | .rsvB _ _ _ => "RSVB"
  | .rsvC _ _ _ => "RSVC"
  | .rsvD _ _ _ => "RSVD"
  | .rsvE _ _ _ => "RSVE"

/-- How the operand of an instruction is written: memory, immediate or bare (R105). -/
inductive OperandNotation where
  | memory
  | immediate
  | bare
  deriving DecidableEq, Repr

/-- The notation of an opcode: rows 0 to 3 by bit 2, the other rows bare (R105, R109). -/
def operandNotation (op : Byte) : OperandNotation :=
  if op.toNat < 0x40 then (if op.getLsbD 2 then .immediate else .memory) else .bare

/-- The raw address in its notation: four hex digits, in brackets or after `#` (R105). -/
def operandText (i : Instr) : List Char :=
  let raw := hexByte i.highByte ++ hexByte i.lowByte
  match operandNotation i.opcode with
  | .memory => '[' :: raw ++ [']']
  | .immediate => '#' :: raw
  | .bare => raw

/-- The low nibble a reserved opcode is printed with, after a point (R109). -/
def nibbleText (op : Byte) : List Char :=
  if 0x40 ≤ op.toNat ∧ op.toNat < 0xF0 then ['.', hexDigit (op.toNat % 16)] else []

/-- One line of a listing: mnemonic, space, operand (R105, R109). -/
def listing (i : Instr) : List Char :=
  (mnemonic i).toList ++ nibbleText i.opcode ++ ' ' :: operandText i

/-- The listing of any three bytes (R109). -/
def disassemble (op ah al : Byte) : List Char := listing (decodeWord op ah al)

end Sys2Proof.Machine
end

