-- ==== Sys2Proof/Tests/Slice0.lean ====
section
/-! SUPPORT. Tests/Slice0.lean: the decoding of every constructor from a word written out from the spec's encodings, one-step tests
from spec/95_test_vectors.md (each named after its vector), the checks of WellFormed, and a witness for the hypotheses of every
obligation that has some. -/

namespace Sys2Proof.Tests

open Sys2Proof.Machine Sys2Proof.Claims

/-! ### Decoding, from 30_encoding.md R98, R100, R101 -/

/-- The SGN row, opcode bits 7 to 4 = 0000; every second word with bit 3 set. -/
theorem test_decode_sgn :
    decode [0b00000000, 0x12, 0x34] = .ok (.sgnm false 0x12 0x34, []) ∧
    decode [0b00001001, 0x12, 0x34] = .ok (.sgna true 0x12 0x34, []) ∧
    decode [0b00000010, 0x12, 0x34] = .ok (.sgns false 0x12 0x34, []) ∧
    decode [0b00001011, 0x12, 0x34] = .ok (.sgnn true 0x12 0x34, []) ∧
    decode [0b00000100, 0x12, 0x34] = .ok (.sgnmi false 0x12 0x34, []) ∧
    decode [0b00001101, 0x12, 0x34] = .ok (.sgnai true 0x12 0x34, []) ∧
    decode [0b00000110, 0x12, 0x34] = .ok (.sgnsi false 0x12 0x34, []) ∧
    decode [0b00001111, 0x12, 0x34] = .ok (.sgnni true 0x12 0x34, []) := by
  refine ⟨rfl, rfl, rfl, rfl, rfl, rfl, rfl, rfl⟩

/-- The MOV row, opcode bits 7 to 4 = 0001; every second word with bit 3 set. -/
theorem test_decode_mov :
    decode [0b00010000, 0x12, 0x34] = .ok (.movm false 0x12 0x34, []) ∧
    decode [0b00011001, 0x12, 0x34] = .ok (.mova true 0x12 0x34, []) ∧
    decode [0b00010010, 0x12, 0x34] = .ok (.movs false 0x12 0x34, []) ∧
    decode [0b00011011, 0x12, 0x34] = .ok (.movn true 0x12 0x34, []) ∧
    decode [0b00010100, 0x12, 0x34] = .ok (.movmi false 0x12 0x34, []) ∧
    decode [0b00011101, 0x12, 0x34] = .ok (.movai true 0x12 0x34, []) ∧
    decode [0b00010110, 0x12, 0x34] = .ok (.movsi false 0x12 0x34, []) ∧
    decode [0b00011111, 0x12, 0x34] = .ok (.movni true 0x12 0x34, []) := by
  refine ⟨rfl, rfl, rfl, rfl, rfl, rfl, rfl, rfl⟩

/-- The ADD row, opcode bits 7 to 4 = 0010; every second word with bit 3 set. -/
theorem test_decode_add :
    decode [0b00100000, 0x12, 0x34] = .ok (.addm false 0x12 0x34, []) ∧
    decode [0b00101001, 0x12, 0x34] = .ok (.adda true 0x12 0x34, []) ∧
    decode [0b00100010, 0x12, 0x34] = .ok (.adds false 0x12 0x34, []) ∧
    decode [0b00101011, 0x12, 0x34] = .ok (.addn true 0x12 0x34, []) ∧
    decode [0b00100100, 0x12, 0x34] = .ok (.addmi false 0x12 0x34, []) ∧
    decode [0b00101101, 0x12, 0x34] = .ok (.addai true 0x12 0x34, []) ∧
    decode [0b00100110, 0x12, 0x34] = .ok (.addsi false 0x12 0x34, []) ∧
    decode [0b00101111, 0x12, 0x34] = .ok (.addni true 0x12 0x34, []) := by
  refine ⟨rfl, rfl, rfl, rfl, rfl, rfl, rfl, rfl⟩

/-- The SUB row, opcode bits 7 to 4 = 0011; every second word with bit 3 set. -/
theorem test_decode_sub :
    decode [0b00110000, 0x12, 0x34] = .ok (.subm false 0x12 0x34, []) ∧
    decode [0b00111001, 0x12, 0x34] = .ok (.suba true 0x12 0x34, []) ∧
    decode [0b00110010, 0x12, 0x34] = .ok (.subs false 0x12 0x34, []) ∧
    decode [0b00111011, 0x12, 0x34] = .ok (.subn true 0x12 0x34, []) ∧
    decode [0b00110100, 0x12, 0x34] = .ok (.submi false 0x12 0x34, []) ∧
    decode [0b00111101, 0x12, 0x34] = .ok (.subai true 0x12 0x34, []) ∧
    decode [0b00110110, 0x12, 0x34] = .ok (.subsi false 0x12 0x34, []) ∧
    decode [0b00111111, 0x12, 0x34] = .ok (.subni true 0x12 0x34, []) := by
  refine ⟨rfl, rfl, rfl, rfl, rfl, rfl, rfl, rfl⟩

/-- Row F, opcode bits 7 to 4 = 1111. -/
theorem test_decode_row_f :
    decode [0b11111111, 0x12, 0x34] = .ok (.hlt 0x12 0x34, []) ∧
    decode [0b11111110, 0x12, 0x34] = .ok (.jmp 0x12 0x34, []) ∧
    decode [0b11110100, 0x12, 0x34] = .ok (.jmpb 0x12 0x34, []) ∧
    decode [0b11110000, 0x12, 0x34] = .ok (.jz 0x12 0x34, []) ∧
    decode [0b11110001, 0x12, 0x34] = .ok (.jp 0x12 0x34, []) ∧
    decode [0b11110010, 0x12, 0x34] = .ok (.nopfF2 0x12 0x34, []) ∧
    decode [0b11110011, 0x12, 0x34] = .ok (.nopfF3 0x12 0x34, []) ∧
    decode [0b11110101, 0x12, 0x34] = .ok (.nopfF5 0x12 0x34, []) ∧
    decode [0b11110110, 0x12, 0x34] = .ok (.nopfF6 0x12 0x34, []) ∧
    decode [0b11110111, 0x12, 0x34] = .ok (.nopfF7 0x12 0x34, []) ∧
    decode [0b11111000, 0x12, 0x34] = .ok (.nopfF8 0x12 0x34, []) ∧
    decode [0b11111001, 0x12, 0x34] = .ok (.nopfF9 0x12 0x34, []) ∧
    decode [0b11111010, 0x12, 0x34] = .ok (.nopfFA 0x12 0x34, []) ∧
    decode [0b11111011, 0x12, 0x34] = .ok (.nopfFB 0x12 0x34, []) ∧
    decode [0b11111100, 0x12, 0x34] = .ok (.nopfFC 0x12 0x34, []) ∧
    decode [0b11111101, 0x12, 0x34] = .ok (.nopfFD 0x12 0x34, []) := by
  refine ⟨rfl, rfl, rfl, rfl, rfl, rfl, rfl, rfl, rfl, rfl, rfl, rfl, rfl, rfl, rfl, rfl⟩

/-- Rows 4 to E with several low nibbles. -/
theorem test_decode_reserved :
    decode [0b01000101, 0x12, 0x34] = .ok (.rsv4 0x5 0x12 0x34, []) ∧
    decode [0b01011111, 0x12, 0x34] = .ok (.rsv5 0xF 0x12 0x34, []) ∧
    decode [0b01100000, 0x12, 0x34] = .ok (.rsv6 0x0 0x12 0x34, []) ∧
    decode [0b01111010, 0x12, 0x34] = .ok (.rsv7 0xA 0x12 0x34, []) ∧
    decode [0b10000101, 0x12, 0x34] = .ok (.rsv8 0x5 0x12 0x34, []) ∧
    decode [0b10011111, 0x12, 0x34] = .ok (.rsv9 0xF 0x12 0x34, []) ∧
    decode [0b10100000, 0x12, 0x34] = .ok (.rsvA 0x0 0x12 0x34, []) ∧
    decode [0b10111010, 0x12, 0x34] = .ok (.rsvB 0xA 0x12 0x34, []) ∧
    decode [0b11000101, 0x12, 0x34] = .ok (.rsvC 0x5 0x12 0x34, []) ∧
    decode [0b11011111, 0x12, 0x34] = .ok (.rsvD 0xF 0x12 0x34, []) ∧
    decode [0b11100000, 0x12, 0x34] = .ok (.rsvE 0x0 0x12 0x34, []) := by
  refine ⟨rfl, rfl, rfl, rfl, rfl, rfl, rfl, rfl, rfl, rfl, rfl⟩

/-- The first bit-3 alias of each family (R99). -/
theorem test_decode_bit_three :
    decode [0b00001000, 0, 0] = .ok (.sgnm true 0 0, []) ∧ decode [0b00011101, 0, 0] = .ok (.movai true 0 0, []) ∧
    decode [0b00101010, 0, 0] = .ok (.adds true 0 0, []) ∧ decode [0b00111111, 0, 0] = .ok (.subni true 0 0, []) := by
  refine ⟨rfl, rfl, rfl, rfl⟩

/-- Too few bytes are refused by name (R90). -/
theorem test_decode_truncated :
    decode [] = .error .truncated ∧ decode [0xFF] = .error .truncated ∧ decode [0xFF, 0x00] = .error .truncated := by
  refine ⟨rfl, rfl, rfl⟩

/-- The words of opcode_table.json: the opcode in bits 23 to 16. -/
theorem test_decode_table_words :
    decodeTableWord 24 0x000000 = some (.sgnm false 0 0) ∧ decodeTableWord 24 0x210004 = some (.adda false 0 4) ∧
    decodeTableWord 24 0xFF1234 = some (.hlt 0x12 0x34) ∧ decodeTableWord 24 0xE00000 = some (.rsvE 0 0 0) := by
  refine ⟨rfl, rfl, rfl, rfl⟩

/-- The source's example of encoding: `ADDA [0004]` is `21 00 04` (R105). -/
theorem test_encode_adda :
    encode (.adda false 0x00 0x04) = [0x21, 0x00, 0x04] ∧ encodeWord (.adda false 0x00 0x04) = 0x210004 := by
  refine ⟨rfl, rfl⟩

/-- Listings of the spec: R105's example, V-R-4, P7 and V-MOV-12. -/
theorem test_listing :
    disassemble 0x21 0x00 0x04 = "ADDA [0004]".toList ∧ disassemble 0x45 0x00 0x01 = "RSV4.5 0001".toList ∧
    disassemble 0xC0 0xDE 0x00 = "RSVC.0 DE00".toList ∧ disassemble 0x1D 0x00 0x2A = "MOVAI #002A".toList := by
  refine ⟨rfl, rfl, rfl, rfl⟩

/-! ### WellFormed -/

/-- An encoding no assembler emits: bit 3 set (R99). -/
theorem test_canonical_refuses_bit_three : (Instr.sgnm true 0 0).canonical = false := rfl

/-- An encoding no assembler emits: a NOPF other than 0xF2 (R245). -/
theorem test_canonical_refuses_nopf : (Instr.nopfF3 0 0).canonical = false := rfl

/-- An image of one byte too many (R364). -/
theorem test_image_refused : imageFits (List.replicate 65537 0) = false := by
  rw [imageFits, List.length_replicate]
  rfl

/-! ### The loader -/

/-- S9, the source's example. -/
theorem test_loader_example : loadText "AB CD ; comment\n01".toList = .ok [0xAB, 0xCD, 0x01] := rfl

/-- A token of odd length is reported with its line (R107). -/
theorem test_loader_odd : loadText "AB ; x\nABC 01".toList = .error (.oddLength ['A', 'B', 'C'] 2) := rfl

/-- A token that is not hex digits. -/
theorem test_loader_not_hex : loadText "AB G0".toList = .error (.notHex ['G', '0'] 1) := rfl

/-- An oversized text is reported with the token that exceeds the size: two one-byte tokens and room for one. -/
theorem test_loader_too_long :
    readTokens 1 [(1, ['A', 'B']), (3, ['C', 'D'])] = .error (.tooLong ['C', 'D'] 3) := rfl

/-! ### One step, from 95_test_vectors.md -/

/-- A state with the instruction bytes at IP and further bytes in memory. -/
def stateAt (ip ax si : Word) (w8 w9 : Bool) (gates : Gates) (cells : List (Nat × Byte)) (instr : List Byte) : State :=
  let m := placeBytes [] ip.toNat instr
  { State.reset with
    ip := ip, ax := ax, si := si, gates := gates
    wires := { Wires.reset with w8 := w8, w9 := w9 }
    mem := cells.foldl (fun m c => memWrite1 m c.1 c.2) m }

/-- What a vector states of the state after: phase, IP, AX, SI and the two flags. -/
def seen : Host.Outcome State Fault Refusal → Option (Phase × Word × Word × Word × Bool × Bool)
  | .next t => some (t.phase, t.ip, t.ax, t.si, t.wires.w8, t.wires.w9)
  | .fault _ => none
  | .refused _ => none

/-- The memory after. -/
def memoryOf : Host.Outcome State Fault Refusal → Option Memory
  | .next t => some t.mem
  | .fault _ => none
  | .refused _ => none

/-- A vector's "no write". -/
abbrev memoryKept (s : State) : Prop := memoryOf (step s) = some s.mem

/-- Some cells after the step. -/
def cellsAfter (s : State) (cells : List Nat) : Option (List Byte) :=
  (memoryOf (step s)).map fun m => cells.map fun a => memRead1 m a

/-- V-SGN-13: SGNM indexed: EA = 0200 + SI; the store goes to the indexed address -/
theorem test_sgn_13 :
    let s := stateAt 0x0100 0x1234 0x0003 true false Config.allEnabled [] [0x00, 0x02, 0x00]
    seen (step s) = some (.fetch, 0x0103, 0x1234, 0x0000, true, false) ∧ cellsAfter s [0x0203, 0x0204] = some [0x12, 0x34] := by decide

/-- V-M-2: 16-bit write at FFFF puts its low byte at 0000 -/
theorem test_m_2 :
    let s := stateAt 0x0100 0xA1B2 0x0000 true false Config.allEnabled [] [0x00, 0xFF, 0xFF]
    seen (step s) = some (.fetch, 0x0103, 0xA1B2, 0x0000, true, false) ∧ cellsAfter s [0xFFFF, 0x0000] = some [0xA1, 0xB2] := by decide

/-- V-SGN-5: SGNA negating (flags false, AX nonzero): AX <- -AX, W8 set -/
theorem test_sgn_5 :
    let s := stateAt 0x0100 0x0001 0x0000 false false Config.allEnabled [] [0x01, 0x02, 0x00]
    seen (step s) = some (.fetch, 0x0103, 0xFFFF, 0x0000, true, false) ∧ memoryKept s := by decide

/-- V-G-8b: gate 8 cut: SGNA negates a nonzero AX (E(8) = 0, W9 = 0) -/
theorem test_g_8b :
    let s := stateAt 0x0100 0x0001 0x0000 true false (setConfig "111111110".toList) [] [0x01, 0x00, 0x00]
    seen (step s) = some (.fetch, 0x0103, 0xFFFF, 0x0000, true, false) ∧ memoryKept s := by decide

/-- V-SGN-6: SGNS: SI <- AX, not cleared; AX, flags keep -/
theorem test_sgn_6 :
    let s := stateAt 0x0100 0x0004 0x0000 true false Config.allEnabled [] [0x02, 0x02, 0x00]
    seen (step s) = some (.fetch, 0x0103, 0x0004, 0x0004, true, false) ∧ memoryKept s := by decide

/-- V-SGN-7: SGNN: nothing but SI <- 0 and IP + 3 -/
theorem test_sgn_7 :
    let s := stateAt 0x0100 0x1234 0x0010 true false Config.allEnabled [] [0x03, 0x02, 0x00]
    seen (step s) = some (.fetch, 0x0103, 0x1234, 0x0000, true, false) ∧ memoryKept s := by decide

/-- V-SGN-8: SGNMI: immediate bit irrelevant to the result; stores AX at EA -/
theorem test_sgn_8 :
    let s := stateAt 0x0100 0x1234 0x0000 true false Config.allEnabled [] [0x04, 0x02, 0x00]
    seen (step s) = some (.fetch, 0x0103, 0x1234, 0x0000, true, false) ∧ cellsAfter s [0x0200, 0x0201] = some [0x12, 0x34] := by decide

/-- V-SGN-9: SGNAI -/
theorem test_sgn_9 :
    let s := stateAt 0x0100 0x00FF 0x0000 true false Config.allEnabled [] [0x05, 0x02, 0x00]
    seen (step s) = some (.fetch, 0x0103, 0x00FF, 0x0000, true, false) ∧ memoryKept s := by decide

/-- V-SGN-10: SGNSI: SI <- AX -/
theorem test_sgn_10 :
    let s := stateAt 0x0100 0xFFFF 0x0000 true false Config.allEnabled [] [0x06, 0x02, 0x00]
    seen (step s) = some (.fetch, 0x0103, 0xFFFF, 0xFFFF, true, false) ∧ memoryKept s := by decide

/-- V-SGN-11: SGNNI -/
theorem test_sgn_11 :
    let s := stateAt 0x0100 0x1234 0x0005 true false Config.allEnabled [] [0x07, 0x02, 0x00]
    seen (step s) = some (.fetch, 0x0103, 0x1234, 0x0000, true, false) ∧ memoryKept s := by decide

/-- V-MOV-1: MOVM: reads and rewrites the same two bytes; memory value unchanged; SI cleared -/
theorem test_mov_1 :
    let s := stateAt 0x0100 0x1234 0x0000 true false Config.allEnabled [(0x0200, 0xBE), (0x0201, 0xEF)] [0x10, 0x02, 0x00]
    seen (step s) = some (.fetch, 0x0103, 0x1234, 0x0000, true, false) ∧ cellsAfter s [0x0200, 0x0201] = some [0xBE, 0xEF] := by decide

/-- V-M-1: 16-bit read at FFFF takes its low byte from 0000 -/
theorem test_m_1 :
    let s := stateAt 0x0100 0x0000 0x0000 false false Config.allEnabled [(0xFFFF, 0x12), (0x0000, 0x34)] [0x11, 0xFF, 0xFF]
    seen (step s) = some (.fetch, 0x0103, 0x1234, 0x0000, true, false) ∧ memoryKept s := by decide

/-- V-MOV-3: MOVA of zero sets W9, clears W8 -/
theorem test_mov_3 :
    let s := stateAt 0x0100 0x1234 0x0000 true false Config.allEnabled [] [0x11, 0x02, 0x00]
    seen (step s) = some (.fetch, 0x0103, 0x0000, 0x0000, false, true) ∧ memoryKept s := by decide

/-- V-MOV-4: MOVS: SI <- MEM16[EA] -/
theorem test_mov_4 :
    let s := stateAt 0x0100 0x1234 0x0000 true false Config.allEnabled [(0x0200, 0xBE), (0x0201, 0xEF)] [0x12, 0x02, 0x00]
    seen (step s) = some (.fetch, 0x0103, 0x1234, 0xBEEF, true, false) ∧ memoryKept s := by decide

/-- V-MOV-5: MOVN -/
theorem test_mov_5 :
    let s := stateAt 0x0100 0x1234 0x0022 true false Config.allEnabled [(0x0200, 0xBE), (0x0201, 0xEF)] [0x13, 0x02, 0x00]
    seen (step s) = some (.fetch, 0x0103, 0x1234, 0x0000, true, false) ∧ memoryKept s := by decide

/-- V-MOV-6: MOVMI: stores the address at the address (EA to MEM16[EA]) -/
theorem test_mov_6 :
    let s := stateAt 0x0100 0x1234 0x0000 true false Config.allEnabled [] [0x14, 0x02, 0x00]
    seen (step s) = some (.fetch, 0x0103, 0x1234, 0x0000, true, false) ∧ cellsAfter s [0x0200, 0x0201] = some [0x02, 0x00] := by decide

/-- V-M-4: fetch at FFFF: AH, AL from 0000, 0001; IP wraps to 0002 -/
theorem test_m_4 :
    let s := stateAt 0xFFFF 0x0000 0x0000 false false Config.allEnabled [(0x0000, 0xAB), (0x0001, 0xCD)] [0x15, 0xAB, 0xCD]
    seen (step s) = some (.fetch, 0x0002, 0xABCD, 0x0000, true, false) ∧ memoryKept s := by decide

/-- V-G-4: gate 4 cut: MOVAI reads memory at EA instead of using EA -/
theorem test_g_4 :
    let s := stateAt 0x0000 0x0000 0x0000 false false (setConfig "11110".toList) [(0x0200, 0xBE), (0x0201, 0xEF)] [0x15, 0x02, 0x00]
    seen (step s) = some (.fetch, 0x0003, 0xBEEF, 0x0000, true, false) ∧ memoryKept s := by decide

/-- V-MOV-8: MOVSI: SI <- constant -/
theorem test_mov_8 :
    let s := stateAt 0x0100 0x1234 0x0000 true false Config.allEnabled [] [0x16, 0x00, 0x02]
    seen (step s) = some (.fetch, 0x0103, 0x1234, 0x0002, true, false) ∧ memoryKept s := by decide

/-- V-G-2: gate 2 cut: MOVSI does not reach SI -/
theorem test_g_2 :
    let s := stateAt 0x0000 0x0000 0x0000 false false (setConfig "110".toList) [] [0x16, 0x00, 0x05]
    seen (step s) = some (.fetch, 0x0003, 0x0000, 0x0000, false, false) ∧ memoryKept s := by decide

/-- V-MOV-9: MOVNI -/
theorem test_mov_9 :
    let s := stateAt 0x0100 0x1234 0x0009 true false Config.allEnabled [] [0x17, 0x12, 0x34]
    seen (step s) = some (.fetch, 0x0103, 0x1234, 0x0000, true, false) ∧ memoryKept s := by decide

/-- V-ADD-1: ADDM: MEM16[EA] <- AX + MEM16[EA]; AX and flags keep -/
theorem test_add_1 :
    let s := stateAt 0x0100 0xFFFE 0x0000 true false Config.allEnabled [(0x0200, 0x00), (0x0201, 0x05)] [0x20, 0x02, 0x00]
    seen (step s) = some (.fetch, 0x0103, 0xFFFE, 0x0000, true, false) ∧ cellsAfter s [0x0200, 0x0201] = some [0x00, 0x03] := by decide

/-- V-M-8: ADDM reads the old value, then writes (read before write at the same address) -/
theorem test_m_8 :
    let s := stateAt 0x0100 0x0001 0x0000 true false Config.allEnabled [(0x0200, 0xFF), (0x0201, 0xFF)] [0x20, 0x02, 0x00]
    seen (step s) = some (.fetch, 0x0103, 0x0001, 0x0000, true, false) ∧ cellsAfter s [0x0200, 0x0201] = some [0x00, 0x00] := by decide

/-- V-ADD-11: ADDA with flags false and AX nonzero: -3 + 5 (not reachable from reset with gate 8 enabled) -/
theorem test_add_11 :
    let s := stateAt 0x0100 0x0003 0x0000 false false Config.allEnabled [(0x0200, 0x00), (0x0201, 0x05)] [0x21, 0x02, 0x00]
    seen (step s) = some (.fetch, 0x0103, 0x0002, 0x0000, true, false) ∧ memoryKept s := by decide

/-- V-ADD-4: ADDS: SI <- sum -/
theorem test_add_4 :
    let s := stateAt 0x0100 0x0010 0x0000 true false Config.allEnabled [(0x0200, 0x00), (0x0201, 0x05)] [0x22, 0x02, 0x00]
    seen (step s) = some (.fetch, 0x0103, 0x0010, 0x0015, true, false) ∧ memoryKept s := by decide

/-- V-ADD-5: ADDN -/
theorem test_add_5 :
    let s := stateAt 0x0100 0x0010 0x0000 true false Config.allEnabled [(0x0200, 0x00), (0x0201, 0x05)] [0x23, 0x02, 0x00]
    seen (step s) = some (.fetch, 0x0103, 0x0010, 0x0000, true, false) ∧ memoryKept s := by decide

/-- V-ADD-6: ADDMI: MEM16[EA] <- AX + EA -/
theorem test_add_6 :
    let s := stateAt 0x0100 0x0001 0x0000 true false Config.allEnabled [] [0x24, 0x02, 0x00]
    seen (step s) = some (.fetch, 0x0103, 0x0001, 0x0000, true, false) ∧ cellsAfter s [0x0200, 0x0201] = some [0x02, 0x01] := by decide

/-- V-ADD-12: ADDAI with FFFF: decrement -/
theorem test_add_12 :
    let s := stateAt 0x0100 0x0001 0x0000 true false Config.allEnabled [] [0x25, 0xFF, 0xFF]
    seen (step s) = some (.fetch, 0x0103, 0x0000, 0x0000, false, true) ∧ memoryKept s := by decide

/-- V-G-8c: gate 8 cut: ADDAI computes -AX + constant -/
theorem test_g_8c :
    let s := stateAt 0x0100 0x0003 0x0000 true false (setConfig "111111110".toList) [] [0x25, 0x00, 0x05]
    seen (step s) = some (.fetch, 0x0103, 0x0002, 0x0000, true, false) ∧ memoryKept s := by decide

/-- V-ADD-8: ADDSI: SI <- AX + constant -/
theorem test_add_8 :
    let s := stateAt 0x0100 0x0009 0x0000 true false Config.allEnabled [] [0x26, 0x00, 0x01]
    seen (step s) = some (.fetch, 0x0103, 0x0009, 0x000A, true, false) ∧ memoryKept s := by decide

/-- V-ADD-9: ADDNI -/
theorem test_add_9 :
    let s := stateAt 0x0100 0x0009 0x0000 true false Config.allEnabled [] [0x27, 0x00, 0x01]
    seen (step s) = some (.fetch, 0x0103, 0x0009, 0x0000, true, false) ∧ memoryKept s := by decide

/-- V-SUB-1: SUBM: MEM16[EA] <- AX - MEM16[EA] -/
theorem test_sub_1 :
    let s := stateAt 0x0100 0x0003 0x0000 true false Config.allEnabled [(0x0200, 0x00), (0x0201, 0x05)] [0x30, 0x02, 0x00]
    seen (step s) = some (.fetch, 0x0103, 0x0003, 0x0000, true, false) ∧ cellsAfter s [0x0200, 0x0201] = some [0xFF, 0xFE] := by decide

/-- V-SUB-2: SUBA below zero wraps: 3 - 5 = FFFE; W8 = 1 because the comparison is unsigned -/
theorem test_sub_2 :
    let s := stateAt 0x0100 0x0003 0x0000 true false Config.allEnabled [(0x0200, 0x00), (0x0201, 0x05)] [0x31, 0x02, 0x00]
    seen (step s) = some (.fetch, 0x0103, 0xFFFE, 0x0000, true, false) ∧ memoryKept s := by decide

/-- V-G-89: gates 8, 9 cut: always negate -/
theorem test_g_89 :
    let s := stateAt 0x0100 0x0003 0x0000 true false (setConfig "1111111100".toList) [(0x0200, 0x00), (0x0201, 0x05)] [0x31, 0x02, 0x00]
    seen (step s) = some (.fetch, 0x0103, 0xFFF8, 0x0000, true, false) ∧ memoryKept s := by decide

/-- V-SUB-4: SUBS -/
theorem test_sub_4 :
    let s := stateAt 0x0100 0x0007 0x0000 true false Config.allEnabled [(0x0200, 0x00), (0x0201, 0x05)] [0x32, 0x02, 0x00]
    seen (step s) = some (.fetch, 0x0103, 0x0007, 0x0002, true, false) ∧ memoryKept s := by decide

/-- V-SUB-5: SUBN -/
theorem test_sub_5 :
    let s := stateAt 0x0100 0x0007 0x0000 true false Config.allEnabled [(0x0200, 0x00), (0x0201, 0x05)] [0x33, 0x02, 0x00]
    seen (step s) = some (.fetch, 0x0103, 0x0007, 0x0000, true, false) ∧ memoryKept s := by decide

/-- V-SUB-6: SUBMI: MEM16[EA] <- AX - EA -/
theorem test_sub_6 :
    let s := stateAt 0x0100 0x0201 0x0000 true false Config.allEnabled [] [0x34, 0x02, 0x00]
    seen (step s) = some (.fetch, 0x0103, 0x0201, 0x0000, true, false) ∧ cellsAfter s [0x0200, 0x0201] = some [0x00, 0x01] := by decide

/-- V-SUB-10: SUBAI from reset state: 0 - 1 = FFFF -/
theorem test_sub_10 :
    let s := stateAt 0x0000 0x0000 0x0000 false false Config.allEnabled [] [0x35, 0x00, 0x01]
    seen (step s) = some (.fetch, 0x0003, 0xFFFF, 0x0000, true, false) ∧ memoryKept s := by decide

/-- V-SUB-7: SUBAI: decrement to zero -/
theorem test_sub_7 :
    let s := stateAt 0x0100 0x0001 0x0000 true false Config.allEnabled [] [0x35, 0x00, 0x01]
    seen (step s) = some (.fetch, 0x0103, 0x0000, 0x0000, false, true) ∧ memoryKept s := by decide

/-- V-SUB-8: SUBSI -/
theorem test_sub_8 :
    let s := stateAt 0x0100 0x0001 0x0000 true false Config.allEnabled [] [0x36, 0x00, 0x01]
    seen (step s) = some (.fetch, 0x0103, 0x0001, 0x0000, true, false) ∧ memoryKept s := by decide

/-- V-SUB-9: SUBNI -/
theorem test_sub_9 :
    let s := stateAt 0x0100 0x0001 0x0000 true false Config.allEnabled [] [0x37, 0x00, 0x01]
    seen (step s) = some (.fetch, 0x0103, 0x0001, 0x0000, true, false) ∧ memoryKept s := by decide

/-- V-C-2: HLT with index pending: SI is not cleared, EA unused -/
theorem test_c_2 :
    let s := stateAt 0x0100 0x0000 0xFFFF false false Config.allEnabled [] [0xFF, 0x00, 0x00]
    seen (step s) = some (.halt, 0x0100, 0x0000, 0xFFFF, false, false) ∧ memoryKept s := by decide

/-- V-C-4: JMP indexed: target RAW + SI -/
theorem test_c_4 :
    let s := stateAt 0x0100 0x0000 0x0010 false false Config.allEnabled [] [0xFE, 0x12, 0x34]
    seen (step s) = some (.fetch, 0x1244, 0x0000, 0x0000, false, false) ∧ memoryKept s := by decide

/-- V-G-7: gate 7 cut: JMP does not jump -/
theorem test_g_7 :
    let s := stateAt 0x0100 0x0000 0x0000 false false (setConfig "11111110".toList) [] [0xFE, 0x12, 0x34]
    seen (step s) = some (.fetch, 0x0103, 0x0000, 0x0000, false, false) ∧ memoryKept s := by decide

/-- V-C-5: JMPB: as JMP -/
theorem test_c_5 :
    let s := stateAt 0x0100 0x0001 0x0000 true false Config.allEnabled [] [0xF4, 0x00, 0x00]
    seen (step s) = some (.fetch, 0x0000, 0x0001, 0x0000, true, false) ∧ memoryKept s := by decide

/-- V-C-6: JZ taken (S5): zero flag set -/
theorem test_c_6 :
    let s := stateAt 0x0100 0x0000 0x0000 false true Config.allEnabled [] [0xF0, 0x02, 0x00]
    seen (step s) = some (.fetch, 0x0200, 0x0000, 0x0000, false, true) ∧ memoryKept s := by decide

/-- V-C-8: JZ at reset state: AX = 0 but no latch yet, W9 = 0, not taken -/
theorem test_c_8 :
    let s := stateAt 0x0000 0x0000 0x0000 false false Config.allEnabled [] [0xF0, 0x02, 0x00]
    seen (step s) = some (.fetch, 0x0003, 0x0000, 0x0000, false, false) ∧ memoryKept s := by decide

/-- V-C-9: JP taken: positive flag, AX = FFFF counts as positive -/
theorem test_c_9 :
    let s := stateAt 0x0100 0xFFFF 0x0000 true false Config.allEnabled [] [0xF1, 0x02, 0x00]
    seen (step s) = some (.fetch, 0x0200, 0xFFFF, 0x0000, true, false) ∧ memoryKept s := by decide

/-- V-G-8: gate 8 cut: JP not taken although W8 = 1 -/
theorem test_g_8 :
    let s := stateAt 0x0100 0x0001 0x0000 true false (setConfig "111111110".toList) [] [0xF1, 0x02, 0x00]
    seen (step s) = some (.fetch, 0x0103, 0x0001, 0x0000, true, false) ∧ memoryKept s := by decide

/-- V-C-11: NOPF F2: only SI <- 0 and IP + 3 -/
theorem test_c_11 :
    let s := stateAt 0x0100 0x1234 0x0033 true false Config.allEnabled [] [0xF2, 0xAA, 0xBB]
    seen (step s) = some (.fetch, 0x0103, 0x1234, 0x0000, true, false) ∧ memoryKept s := by decide

/-- V-G-6b: gates 3 and 6 cut: row F yields signAdjust(AX) into SI -/
theorem test_g_6b :
    let s := stateAt 0x0100 0x0007 0x0000 true false (setConfig "1110110".toList) [] [0xF2, 0x00, 0x00]
    seen (step s) = some (.fetch, 0x0103, 0x0007, 0x0007, true, false) ∧ memoryKept s := by decide

/-- V-C-13: NOPF F8: row F does not alias on bit 3 (F8 is not JZ) -/
theorem test_c_13 :
    let s := stateAt 0x0100 0x0000 0x0000 false true Config.allEnabled [] [0xF8, 0x02, 0x00]
    seen (step s) = some (.fetch, 0x0103, 0x0000, 0x0000, false, true) ∧ memoryKept s := by decide

/-- V-C-12: NOPF FD -/
theorem test_c_12 :
    let s := stateAt 0x0100 0x1234 0x0000 true false Config.allEnabled [] [0xFD, 0x00, 0x00]
    seen (step s) = some (.fetch, 0x0103, 0x1234, 0x0000, true, false) ∧ memoryKept s := by decide

/-- V-R-1: row 4 faults; nothing changes; IP stays at the opcode -/
theorem test_r_1 :
    let s := stateAt 0x0100 0x1234 0x0002 true false Config.allEnabled [(0x0200, 0x01), (0x0201, 0x02), (0x0202, 0x03), (0x0203, 0x04)] [0x40, 0x02, 0x00]
    seen (step s) = some (.fault, 0x0100, 0x1234, 0x0002, true, false) ∧ memoryKept s := by decide

/-- V-R-4: gate 6 cut: 45 acts as SGNAI -/
theorem test_r_4 :
    let s := stateAt 0x0100 0x1234 0x0000 true false (setConfig "1111110111".toList) [] [0x45, 0x00, 0x01]
    seen (step s) = some (.fetch, 0x0103, 0x1234, 0x0000, true, false) ∧ memoryKept s := by decide

/-- V-R-2: row E, destination AX form: faults although the decode says "latch AX" -/
theorem test_r_2 :
    let s := stateAt 0x0100 0x1234 0x0000 true false Config.allEnabled [] [0xE5, 0x00, 0x01]
    seen (step s) = some (.fault, 0x0100, 0x1234, 0x0000, true, false) ∧ memoryKept s := by decide

/-- V-R-3: EF is not row F: faults -/
theorem test_r_3 :
    let s := stateAt 0x0100 0x0000 0x0000 false false Config.allEnabled [] [0xEF, 0x00, 0x00]
    seen (step s) = some (.fault, 0x0100, 0x0000, 0x0000, false, false) ∧ memoryKept s := by decide

/-- V-R-5: gate 6 cut: 90 acts as SGNM -/
theorem test_r_5 :
    let s := stateAt 0x0100 0x1234 0x0000 true false (setConfig "1111110111".toList) [] [0x90, 0x02, 0x00]
    seen (step s) = some (.fetch, 0x0103, 0x1234, 0x0000, true, false) ∧ cellsAfter s [0x0200, 0x0201] = some [0x12, 0x34] := by decide

/-- S8 with the memory as the source prints it: the rules give AX = FF00, not 0005 (90_conflicts.md C1). -/
theorem test_s8_as_printed :
    seen (step { State.reset with mem := bulkLoad [] 0 [0x21, 0x00, 0x03, 0xFF, 0x00, 0x05] }) =
      some (.fetch, 3, 0xFF00, 0, true, false) := by decide

/-- S7: a program of the byte 0xFF alone halts in one cycle, IP and memory as they were. -/
theorem test_s7 :
    let s : State := { State.reset with mem := bulkLoad [] 0 [0xFF] }
    seen (step s) = some (.halt, 0, 0, 0, false, false) ∧ memoryKept s := by decide

/-- A placed table word is what the next step runs: ADDSI #1234. -/
theorem test_withFetchWord :
    seen (step (State.reset.withFetchWord 24 0x261234)) = some (.fetch, 3, 0, 0x1234, false, false) := by decide

/-! ### Witnesses -/

/-- A state in FETCH at HLT. -/
def haltState : State := { State.reset with mem := [(0, 0xFF)] }

/-- A state in FETCH at a reserved opcode. -/
def faultState : State := { State.reset with mem := [(0, 0x40)] }

/-- The reset state with one gate cut. -/
def cutState (bits : List Char) : State := { State.reset with gates := setConfig bits }

theorem witness_DecodeOfEncode : (Instr.rsvE 0xF 0xFF 0xFF).wellFormed = true := rfl

theorem witness_EncodeOfDecode : decode [0xFF, 0xFF] = .error .truncated ∧ ([0xFF, 0xFF] : List Byte).length < 3 := by
  exact ⟨rfl, by decide⟩

theorem witness_StepRunsTheDecodedInstruction :
    haltState.phase = .fetch ∧ decode haltState.fetchBytes = .ok (.hlt 0 0, []) ∧ (Instr.hlt 0 0).wellFormed = true :=
  ⟨rfl, rfl, rfl⟩

theorem witness_TerminalPhasesTakeNoStep :
    (∃ s : State, s.phase = .halt ∧ Reaches s s) ∧ (∃ s : State, s.phase = .fault ∧ Reaches s s) :=
  ⟨⟨{ State.reset with phase := .halt }, rfl, .refl _⟩, ⟨{ State.reset with phase := .fault }, rfl, .refl _⟩⟩

theorem witness_EveryCycleCompletes : ¬ State.reset.Terminal ∧ ¬ ({ State.reset with phase := .execute } : State).Terminal := by
  decide

/-- One state for each of the three ends of a cycle. -/
theorem witness_StepIsThePhaseMachine :
    (State.reset.phase = .fetch ∧ ∃ t : State, step State.reset = .next t ∧ t.phase = .fetch) ∧
    (haltState.phase = .fetch ∧ ∃ t : State, step haltState = .next t ∧ t.phase = .halt) ∧
    (faultState.phase = .fetch ∧ ∃ t : State, step faultState = .next t ∧ t.phase = .fault) :=
  ⟨⟨rfl, _, rfl, rfl⟩, ⟨rfl, _, rfl, rfl⟩, ⟨rfl, _, rfl, rfl⟩⟩

theorem witness_EveryStepKeepsTheInvariant : ∃ t : State, State.reset.Inv ∧ step State.reset = .next t :=
  ⟨_, by decide, rfl⟩

/-- One state for each case of the flag invariant. -/
theorem witness_EveryStepKeepsTheFlagInvariant :
    (∃ t : State, State.reset.FlagInv ∧ step State.reset = .next t) ∧
    (∃ t : State, (stateAt 0 1 0 true false Config.allEnabled [] [0x35, 0, 1]).FlagInv ∧
      step (stateAt 0 1 0 true false Config.allEnabled [] [0x35, 0, 1]) = .next t) ∧
    (∃ t : State, (stateAt 0 0 0 false true Config.allEnabled [] [0x35, 0, 1]).FlagInv ∧
      step (stateAt 0 0 0 false true Config.allEnabled [] [0x35, 0, 1]) = .next t) :=
  ⟨⟨_, by decide, rfl⟩, ⟨_, by decide, rfl⟩, ⟨_, by decide, rfl⟩⟩

theorem witness_RunsFromBootKeepTheInvariants :
    ∃ s t : State, boot (some ['1']) [0x15, 0x00, 0x01] = some s ∧ Reaches s t ∧ t.ax = 1 :=
  ⟨_, _, rfl, .tail (.refl _) rfl, rfl⟩

theorem witness_SignAdjustUnderTheFlagInvariant :
    State.reset.FlagInv ∧ (cutState "1111111100".toList).FlagInv ∧
    (cutState "1111111100".toList).gates.g8 = false ∧ (cutState "1111111100".toList).gates.g9 = false := by decide

theorem witness_GateSixCutNeverFaults :
    (cutState "1111110".toList).gates.g6 = false ∧ (cutState "1111110".toList).phase ≠ .fault := by decide

theorem witness_ByteWriteSetsOneCell :
    Memory.wf [(5, 1)] = true ∧ (65540 : Int) % 65536 ≠ (-1 : Int) % 65536 := by decide

/-- The write at the top of memory, and a cell it leaves alone. -/
theorem witness_WordWriteThenReads :
    Memory.wf [(5, 1)] = true ∧ (1 : Int) % 65536 ≠ (65535 : Int) % 65536 ∧
    (1 : Int) % 65536 ≠ (65535 + 1 : Int) % 65536 := by decide

theorem witness_SgnFamilyResults : State.reset.gates.g0 = true := rfl

theorem witness_MovFamilyResults : State.reset.gates.g0 = true ∧ State.reset.gates.g6 = true := ⟨rfl, rfl⟩

theorem witness_AddFamilyResults :
    (cutState "1111110".toList).gates.g0 = true ∧ (cutState "1111110".toList).gates.g6 = false := by decide

theorem witness_SubFamilyResults :
    (cutState "11110".toList).gates.g0 = true ∧ (cutState "11110".toList).gates.g4 = false := by decide

theorem witness_HltHalts :
    (haltState.phase = .fetch ∧ memRead1 haltState.mem haltState.ip.toNat = 0xFF) ∧
    (∃ t : State, State.reset.gates = Config.allEnabled ∧ exec (.hlt 0 0) State.reset = .next t ∧ t.phase = .halt) :=
  ⟨⟨rfl, rfl⟩, ⟨_, rfl, rfl, rfl⟩⟩

theorem witness_RowFResults :
    State.reset.gates.g0 = true ∧ (cutState ['0']).gates.g0 = false ∧
    Instr.jmp 0 0 ∈ [Instr.jmp 0 0, .jmpb 0 0] := by decide

theorem witness_ReservedOpcodesEnterFault : State.reset.gates.g0 = true ∧ State.reset.gates.g6 = true := ⟨rfl, rfl⟩

theorem witness_ReservedOpcodesActAsSgnWithGateSixCut :
    (cutState "1111110".toList).gates.g0 = true ∧ (cutState "1111110".toList).gates.g6 = false := by decide

theorem witness_GateZeroCutHaltsEveryInstruction : (cutState ['0']).gates.g0 = false := rfl

/-- A halt, where `E(0)` is false after DECODE, and an instruction that goes on, where it is true. -/
theorem witness_HaltExactlyOnHltOrGateZero :
    (∃ t : State, exec (.hlt 0 0) State.reset = .next t ∧ t.phase = .halt ∧
      (State.reset.latchWord 0xFF 0 0).decodePhase.eff 0 = false) ∧
    (∃ t : State, exec (.jmp 0 0) State.reset = .next t ∧ t.phase = .fetch ∧
      (State.reset.latchWord 0xFE 0 0).decodePhase.eff 0 = true) :=
  ⟨⟨_, rfl, rfl, rfl⟩, ⟨_, rfl, rfl, rfl⟩⟩

theorem witness_FaultExactlyOnReservedOpcodes :
    (∃ t : State, exec (.rsv4 0x0 0 0) State.reset = .next t ∧ t.phase = .fault) ∧
    (∃ t : State, exec (.rsvE 0xF 0 0) State.reset = .next t ∧ t.phase = .fault) ∧
    (∃ t : State, exec (.subni true 0 0) State.reset = .next t ∧ t.phase = .fetch) ∧
    (∃ t : State, exec (.jz 0 0) State.reset = .next t ∧ t.phase = .fetch) :=
  ⟨⟨_, rfl, rfl⟩, ⟨_, rfl, rfl⟩, ⟨_, rfl, rfl⟩, ⟨_, rfl, rfl⟩⟩

/-- A store (which writes no register), a store with gate 2 cut, and a halt. -/
theorem witness_RegisterWriters :
    (∃ t : State, exec (.sgnm false 0 0) State.reset = .next t ∧ ¬ ((Instr.sgnm false 0 0).opcode.toNat % 4 = 1)) ∧
    (∃ t : State, exec (.sgnm false 0 0) (cutState "110".toList) = .next t ∧ ¬ (cutState "110".toList).gates.g2 = true) ∧
    (∃ t : State, exec (.hlt 0 0) State.reset = .next t ∧ t.phase ≠ .fetch) :=
  ⟨⟨_, rfl, by decide⟩, ⟨_, rfl, by decide⟩, ⟨_, rfl, by decide⟩⟩

/-- A storing form with a cell outside its two, and a form that stores nothing. -/
theorem witness_MemoryFrame :
    (∃ t : State, Memory.wf State.reset.mem = true ∧ exec (.movmi false 0xFF 0xFF) State.reset = .next t ∧
      ((Instr.movmi false 0xFF 0xFF).opcode.toNat < 0xF0 ∧ (Instr.movmi false 0xFF 0xFF).opcode.toNat % 4 = 0 ∧
        State.reset.gates.g5 = true ∧ t.phase = .fetch) ∧
      (1 : Word) ≠ ea State.reset 0xFF 0xFF ∧ (1 : Word) ≠ ea State.reset 0xFF 0xFF + 1) ∧
    (∃ t : State, exec (.mova false 0 0) State.reset = .next t ∧ ¬ (Instr.mova false 0 0).opcode.toNat % 4 = 0) :=
  ⟨⟨_, rfl, rfl, by decide, by decide, by decide⟩, ⟨_, rfl, by decide⟩⟩

theorem witness_CutGatesFreezeState :
    ∃ t : State, step (cutState "1001101".toList) = .next t ∧ (cutState "1001101".toList).gates.g1 = false ∧
      (cutState "1001101".toList).gates.g2 = false ∧ (cutState "1001101".toList).gates.g5 = false :=
  ⟨_, rfl, by decide, by decide, by decide⟩

theorem witness_GateSevenCutWalksByThree :
    ∃ t : State, (cutState "11111110".toList).phase = .fetch ∧ (cutState "11111110".toList).gates.g7 = false ∧
      Sys2Proof.core.run 1 (cutState "11111110".toList) = .next t ∧ t.phase = .fetch :=
  ⟨_, rfl, rfl, rfl, rfl⟩

theorem witness_GateFourCutMakesImmediateMemory :
    (0xEF : Byte).toNat < 0xF0 ∧ (cutState "11110".toList).gates.g4 = false := by decide

theorem witness_GateSixCutMakesEveryRowSgn :
    (0xEF : Byte).toNat < 0xF0 ∧ (cutState "1111110".toList).gates.g6 = false := by decide

theorem witness_BitThreeIsIgnored : (0xEF : Byte).toNat < 0xF0 := by decide

/-- Two different states that agree on all the hypotheses name. -/
theorem witness_LatchesDoNotCrossCycles :
    ∃ s s' : State, s ≠ s' ∧ s.phase = .fetch ∧ s'.phase = .fetch ∧ s.ax = s'.ax ∧ s.si = s'.si ∧ s.ip = s'.ip ∧
      s.mem = s'.mem ∧ s.gates = s'.gates ∧ s.wires.w8 = s'.wires.w8 ∧ s.wires.w9 = s'.wires.w9 ∧
      s.wires.w10 = s'.wires.w10 :=
  ⟨State.reset, { State.reset with op := 1, ea := 7 }, by decide, rfl, rfl, rfl, rfl, rfl, rfl, rfl, rfl, rfl, rfl⟩

theorem witness_IndexIsUsedUp :
    ∃ t : State, State.reset.phase = .fetch ∧ State.reset.gates = Config.allEnabled ∧ step State.reset = .next t ∧
      t.phase = .fetch ∧ (memRead1 State.reset.mem State.reset.ip.toNat).toNat % 4 ≠ 2 :=
  ⟨_, rfl, rfl, rfl, rfl, by decide⟩

/-- A form of each family, and a reserved opcode with gate 6 cut; operands at both ends of the next instruction. -/
theorem witness_StoreIsSeenByTheNextFetch :
    (State.reset.gates.g0 = true ∧ State.reset.gates.g5 = true ∧ Memory.wf State.reset.mem = true ∧
      (∀ i ∈ [Instr.sgnm false 0 3, .sgnmi true 0 4, .movm true 0 3, .movmi false 0 2, .addm true 0 5, .addmi false 0 3,
          .subm false 0 4, .submi true 0xFF 0xFF],
        i.opcode.toNat % 4 = 0 ∧ (i.opcode.toNat < 0x40 ∨ (i.opcode.toNat < 0xF0 ∧ State.reset.gates.g6 = false)))) ∧
    ((cutState "1111110".toList).gates.g0 = true ∧ (cutState "1111110".toList).gates.g5 = true ∧
      (Instr.rsvE 0xC 0 4).opcode.toNat % 4 = 0 ∧ (Instr.rsvE 0xC 0 4).opcode.toNat < 0xF0 ∧
      (cutState "1111110".toList).gates.g6 = false) ∧
    (ea State.reset 0 2 + 1 = State.reset.ip + 3 ∧ ea State.reset 0 3 = State.reset.ip + 3 ∧
      ea State.reset 0 5 = State.reset.ip + 5) := by
  decide

/-- Both directions, at the ends of the range. -/
theorem witness_ConfigurationStringSetsGates :
    ("0111111110".toList)[(0 : Fin 11).val]? = some '0' ∧ ("0111111110".toList)[(9 : Fin 11).val]? = some '0' ∧
    gateOf (gatesFor (some "0111111110".toList)) 9 = false ∧ gateOf (gatesFor (some "0111111110".toList)) 8 = true := by
  decide

theorem witness_BootLoadsTheImage :
    (65536 < (List.replicate 65537 (0 : Byte)).length) ∧ ((List.replicate 65536 (0 : Byte)).length ≤ 65536) ∧
    (∃ s : State, boot none [0xFF] = some s) := by
  refine ⟨?_, ?_, ⟨_, rfl⟩⟩ <;> rw [List.length_replicate]
  decide

/-- One run for each outcome. -/
theorem witness_RunOutcomesAreDistinct :
    haltState.AtBoundary ∧ faultState.AtBoundary ∧ State.reset.AtBoundary ∧
    (∃ t : State, runFor 1 haltState = .halted t) ∧ (∃ t : State, runFor 1 faultState = .faulted t) ∧
    (∃ t : State, runFor 2 State.reset = .budgetExceeded t ∧ Sys2Proof.core.run 2 State.reset = .next t) :=
  ⟨by decide, by decide, by decide, ⟨_, rfl⟩, ⟨_, rfl⟩, ⟨_, rfl, rfl⟩⟩

theorem witness_LargerBudgetKeepsTheOutcome :
    (∃ t : State, runFor 1 haltState = .halted t) ∧ (∃ t : State, runFor 1 faultState = .faulted t) :=
  ⟨⟨_, rfl⟩, ⟨_, rfl⟩⟩

theorem witness_LastCycleIsInvisible :
    (∃ t : State, haltState.phase = .fetch ∧ step haltState = .next t ∧ t.Terminal ∧ t.phase = .halt) ∧
    (∃ t : State, faultState.phase = .fetch ∧ step faultState = .next t ∧ t.Terminal ∧ t.phase = .fault) :=
  ⟨⟨_, rfl, rfl, .inl rfl, rfl⟩, ⟨_, rfl, rfl, .inr rfl, rfl⟩⟩

theorem witness_FaultingRunDoesNotHalt : ∃ t : State, Reaches faultState t ∧ t.phase = .fault :=
  ⟨_, .tail (.refl _) rfl, rfl⟩

/-- A list for each of the two cases. -/
theorem witness_LoaderReadsHexText :
    ([0xAB, 0x01] : List Byte)[65536]? = none ∧ (List.replicate 65537 (0 : Byte))[65536]? = some 0 := by
  refine ⟨rfl, ?_⟩
  rw [List.getElem?_replicate, if_pos (by decide)]

theorem witness_LoadedTextBoots :
    loadText "15 00 01".toList = .ok [0x15, 0x00, 0x01] ∧ loadText "1".toList = .error (.oddLength ['1'] 1) := ⟨rfl, rfl⟩

end Sys2Proof.Tests
end

section
/-! PROOFS. The family 00_scope.md: the ALU's five functions, a 16-bit store read back byte by byte, and the whole cycle of a
storing instruction. -/

namespace Sys2Proof.Machine

open Sys2Proof.Claims

/-! ### The ALU: one equation per selector that has a function (R141, R143 to R147) -/

theorem signAdjust_eq (e8 e9 : Bool) (x : Word) : signAdjust e8 e9 x = if e8 || e9 then x else -x := by
  rw [signAdjust, neg16_eq]

@[simp] theorem alu_zero (e8 e9 : Bool) (first second : Word) :
    alu e8 e9 0x0#4 first second = some (signAdjust e8 e9 first) := rfl

@[simp] theorem alu_one (e8 e9 : Bool) (first second : Word) : alu e8 e9 0x1#4 first second = some second := rfl

@[simp] theorem alu_two (e8 e9 : Bool) (first second : Word) :
    alu e8 e9 0x2#4 first second = some (signAdjust e8 e9 first + second) :=
  congrArg some (mod65536_toNat_add_toNat _ _)

@[simp] theorem alu_three (e8 e9 : Bool) (first second : Word) :
    alu e8 e9 0x3#4 first second = some (signAdjust e8 e9 first - second) :=
  congrArg some (mod65536_toNat_sub_toNat _ _)

@[simp] theorem alu_fifteen (e8 e9 : Bool) (first second : Word) : alu e8 e9 0xF#4 first second = some 0 := rfl

/-- Settles O17: each selector by its own equation. -/
theorem aluFunctions : Obligations.AluFunctions := by
  intro e8 e9 first second sa
  have hsa : sa = signAdjust e8 e9 first := (signAdjust_eq e8 e9 first).symm
  rw [hsa]
  exact ⟨alu_zero .., alu_one .., alu_two .., alu_three .., alu_fifteen ..⟩

/-! ### Memory: reading a byte after a 16-bit write (R62, R65, R69) -/

/-- A read depends on its address only modulo 65536. -/
theorem memRead1_congr (m : Memory) {a b : Int} (h : mod65536 a = mod65536 b) : memRead1 m a = memRead1 m b := by
  rw [memRead1, memRead1, h]

theorem memRead1_toNat_add (m : Memory) (v : Word) (n : Nat) :
    memRead1 m ((v.toNat : Int) + n) = memRead1 m (v + BitVec.ofNat 16 n).toNat :=
  memRead1_congr m (by rw [mod65536_toNat_add, mod65536_toNat])

theorem word_ne_succ (a : Word) : a ≠ a + 1 := by
  bv_omega

/-- The two cells of a 16-bit write are distinct, so the order of its byte writes is not seen (R76). -/
theorem memRead1_memWrite2 {m : Memory} (h : Memory.wf m = true) (a c : Int) (v : Word) :
    memRead1 (memWrite2 m a v) c =
      if mod65536 c = mod65536 a then highHalf v
      else if mod65536 c = mod65536 (a + 1) then lowHalf v
      else memRead1 m c := by
  rw [memWrite2, memRead1_memWrite1 (wf_memWrite1 h _ _), memRead1_memWrite1 h]
  by_cases hhigh : mod65536 c = mod65536 a
  · have hlow : mod65536 c ≠ mod65536 (a + 1) := by
      rw [hhigh, mod65536_add]
      exact word_ne_succ _
    rw [if_neg hlow, if_pos hhigh, if_pos hhigh]
  · rw [if_neg hhigh, if_neg hhigh]

/-- The same at word addresses. -/
theorem memRead1_memWrite2_word {m : Memory} (h : Memory.wf m = true) (a c v : Word) :
    memRead1 (memWrite2 m a.toNat v) c.toNat =
      if c = a then highHalf v else if c = a + 1 then lowHalf v else memRead1 m c.toNat := by
  rw [memRead1_memWrite2 h, mod65536_toNat, mod65536_toNat, mod65536_toNat_succ]

/-- FETCH reads at the words IP, IP + 1 and IP + 2 (R69, R121). -/
theorem fetchBytes_eq (s : State) :
    s.fetchBytes =
      [memRead1 s.mem s.ip.toNat, memRead1 s.mem (s.ip + 1).toNat, memRead1 s.mem (s.ip + 2).toNat] := by
  have h1 := memRead1_toNat_add s.mem s.ip 1
  have h2 := memRead1_toNat_add s.mem s.ip 2
  exact congrArg₂ (fun b c => [memRead1 s.mem s.ip.toNat, b, c]) h1 h2

/-! ### DECODE of an opcode byte outside row F (R92, R123 to R131) -/

theorem op4_toNat (op : Byte) : (op4 op).toNat = op.toNat / 16 := by
  have := op.isLt
  rw [op4, BitVec.extractLsb'_toNat, Nat.shiftRight_eq_div_pow]
  omega

theorem op4_eq_iff (op : Byte) (row : BitVec 4) : op4 op = row ↔ op.toNat / 16 = row.toNat := by
  rw [← BitVec.toNat_inj, op4_toNat]

theorem op4_ne_rowF {op : Byte} (h : op.toNat < 0xF0) : op4 op ≠ 0xF := by
  intro hF
  have : op.toNat / 16 = 15 := (op4_eq_iff op 0xF).1 hF
  omega

theorem fieldP_of_lt {op : Byte} (h : op.toNat < 0xF0) : fieldP op = op.toNat % 4 := by
  rw [fieldP, if_neg (op4_ne_rowF h), BitVec.extractLsb'_toNat, Nat.shiftRight_zero]

theorem fieldI_of_lt {op : Byte} (h : op.toNat < 0xF0) : fieldI op = (op.getLsbD 2).toNat := by
  rw [fieldI, if_neg (op4_ne_rowF h), BitVec.extractLsb'_toNat, Nat.shiftRight_eq_div_pow, BitVec.getLsbD,
    Nat.toNat_testBit, pow_one]

theorem decide_fieldI_of_lt {op : Byte} (h : op.toNat < 0xF0) : decide (fieldI op = 1) = op.getLsbD 2 := by
  rw [fieldI_of_lt h]
  cases op.getLsbD 2 <;> rfl

theorem ne_of_toNat_lt {op c : Byte} (h : op.toNat < c.toNat) : op ≠ c := by
  rintro rfl
  exact Nat.lt_irrefl _ h

/-- The raw wires of rows 0 to E: the opcode is none of the five bytes wires 0 and 7 look for, so nothing depends on the
flags. -/
theorem decodeWires_of_lt {op : Byte} (h : op.toNat < 0xF0) (e8 e9 : Bool) (w : Wires) :
    decodeWires op e8 e9 w =
      { w with
        w0 := true, w1 := decide (op.toNat % 4 = 1), w2 := true, w3 := decide (op.toNat % 4 ≠ 2)
        w4 := op.getLsbD 2, w5 := decide (op.toNat % 4 = 0), w6 := true, w7 := false } := by
  have hne : ∀ c : Byte, 0xF0 ≤ c.toNat → op ≠ c := fun c hc => ne_of_toNat_lt (h.trans_le hc)
  have hFF := hne 0xFF#8 (by decide)
  have hFE := hne 0xFE#8 (by decide)
  have hF0 := hne 0xF0#8 (by decide)
  have hF4 := hne 0xF4#8 (by decide)
  have hF1 := hne 0xF1#8 (by decide)
  simp [decodeWires, fieldP_of_lt h, decide_fieldI_of_lt h, hFF, hFE, hF0, hF4, hF1]

/-- The advance of IP past an instruction word (R90, R140). -/
@[simp] theorem ofNat_instrBytes : BitVec.ofNat 16 Config.instrBytes = 3#16 := rfl

/-! ### The cycle of a storing instruction -/

theorem signAdjust_flags (s : State) :
    signAdjust (s.wires.w8 && s.gates.g8) (s.wires.w9 && s.gates.g9) s.ax = signAdjusted s :=
  signAdjust_eq _ _ _

/-- `second` outside row F, by bit 2 of the opcode and gate 4 (R95, R135, R275). -/
theorem second_of_lt {op : Byte} (h : op.toNat < 0xF0) (s : State) (ah al : Byte) :
    (if decide (fieldI op = 1) && s.gates.g4 then effectiveAddress ah al s.si
      else memRead2 s.mem (effectiveAddress ah al s.si).toNat) =
    if op.getLsbD 2 then immediateOperand s ah al else memoryOperand s ah al := by
  rw [decide_fieldI_of_lt h]
  cases op.getLsbD 2 <;> rfl

/-- The rows in which the ALU has a function of `Claims.storedValue`: 0 to 3, and 4 to E with gate 6 cut (R142, R261). -/
def HasStoredValue (i : Instr) (s : State) : Prop :=
  i.opcode.toNat < 0x40 ∨ (i.opcode.toNat < 0xF0 ∧ s.gates.g6 = false)

theorem HasStoredValue.opcode_lt {i : Instr} {s : State} (h : HasStoredValue i s) : i.opcode.toNat < 0xF0 := by
  obtain hrow | ⟨hrow, -⟩ := h <;> omega

/-- EXECUTE steps 1 to 3 answer `Claims.storedValue`: the selector is 0 with gate 6 cut and the row's number without. -/
theorem result_eq_storedValue {i : Instr} {s : State} (h : HasStoredValue i s) :
    (s.latchWord i.opcode i.highByte i.lowByte).decodePhase.result = some (storedValue s i) := by
  rw [result_decoded, second_of_lt h.opcode_lt, storedValue]
  cases hg6 : s.gates.g6 with
  | false => simp [signAdjust_flags]
  | true =>
    have hlt : i.opcode.toNat < 0x40 := by simpa [HasStoredValue, hg6] using h
    have hsel : ∀ row : BitVec 4, i.opcode.toNat / 16 = row.toNat → op4 i.opcode = row :=
      fun row => (op4_eq_iff i.opcode row).2
    by_cases h1 : i.opcode.toNat < 0x10
    · simp [hsel 0 (show i.opcode.toNat / 16 = 0 by omega), h1, signAdjust_flags]
    by_cases h2 : i.opcode.toNat < 0x20
    · simp [hsel 1 (show i.opcode.toNat / 16 = 1 by omega), h1, h2]
    by_cases h3 : i.opcode.toNat < 0x30
    · simp [hsel 2 (show i.opcode.toNat / 16 = 2 by omega), h1, h2, h3, signAdjust_flags]
    · simp [hsel 3 (show i.opcode.toNat / 16 = 3 by omega), h1, h2, h3, signAdjust_flags]

/-- The cycle on an opcode whose field `p` is 0, once the ALU has answered `r`: `r` goes to memory at EA (R97, R137). -/
theorem runWord_eq_toMemory {op ah al : Byte} {s : State} {r : Word} (hg0 : s.gates.g0 = true)
    (hlt : op.toNat < 0xF0) (hp : op.toNat % 4 = 0) (hr : (s.latchWord op ah al).decodePhase.result = some r) :
    s.runWord op ah al = toMemory s op ah al (op.getLsbD 2) r := by
  have hFF : op ≠ 0xFF#8 := ne_of_toNat_lt (hlt.trans (by decide))
  rw [runWord_eq, hr]
  simp [decodeWires_of_lt hlt, fieldP_of_lt hlt, hp, hFF, hg0, toMemory, decoded, siCleared]

/-- The whole next state of every storing instruction. -/
theorem exec_eq_toMemory {i : Instr} {s : State} (hg0 : s.gates.g0 = true) (hp : i.opcode.toNat % 4 = 0)
    (h : HasStoredValue i s) :
    exec i s =
      .next (toMemory s i.opcode i.highByte i.lowByte (i.opcode.getLsbD 2) (storedValue s i)) := by
  rw [exec_eq_runWord, runWord_eq_toMemory hg0 h.opcode_lt hp (result_eq_storedValue h)]

/-- The bytes fetched after a store, each read through the write (R78, R341). -/
theorem fetchBytes_toMemory {s : State} (hg5 : s.gates.g5 = true) (hwf : Memory.wf s.mem = true) (op ah al : Byte)
    (imm : Bool) (r : Word) :
    (toMemory s op ah al imm r).fetchBytes =
      [s.ip + 3, s.ip + 4, s.ip + 5].map fun c =>
        if c = ea s ah al then highHalf r else if c = ea s ah al + 1 then lowHalf r else memRead1 s.mem c.toNat := by
  have hmem : (toMemory s op ah al imm r).mem = memWrite2 s.mem (ea s ah al).toNat r := if_pos hg5
  have hip : (toMemory s op ah al imm r).ip = s.ip + 3 := rfl
  have h4 : s.ip + 3 + 1 = s.ip + 4 := BitVec.add_assoc _ _ _
  have h5 : s.ip + 3 + 2 = s.ip + 5 := BitVec.add_assoc _ _ _
  rw [fetchBytes_eq, hmem, hip, h4, h5]
  simp only [memRead1_memWrite2_word hwf, List.map_cons, List.map_nil]

/-- Settles O42: the next state is `Claims.toMemory`, and the next fetch reads through its write. -/
theorem storeIsSeenByTheNextFetch : Obligations.StoreIsSeenByTheNextFetch := by
  intro i s hg0 hg5 hwf hp h
  exact ⟨_, exec_eq_toMemory hg0 hp h, rfl, rfl, fetchBytes_toMemory hg5 hwf _ _ _ _ _⟩

end Sys2Proof.Machine
end

section
/-! PROOFS. The family 10_state.md: what the phases of a cycle keep, and from it the invariants of every step and every run,
the writers of the registers, the cut gates, the terminal phases and the configuration string. -/

namespace Sys2Proof.Machine

open Sys2Proof.Claims

/-! ### The fields of a committed cycle (R137 to R140) -/

@[simp] theorem commit_ax (r : Word) (s : State) :
    (s.commit r).ax = if s.wires.w1 && s.gates.g1 then r else s.ax := by rw [commit_eq]

@[simp] theorem commit_si (r : Word) (s : State) :
    (s.commit r).si = if s.wires.w2 && s.gates.g2 then (if s.wires.w3 && s.gates.g3 then 0 else r) else s.si := by
  rw [commit_eq]

@[simp] theorem commit_mem (r : Word) (s : State) :
    (s.commit r).mem = if s.wires.w5 && s.gates.g5 then memWrite2 s.mem s.ea.toNat r else s.mem := by rw [commit_eq]

@[simp] theorem commit_gates (r : Word) (s : State) : (s.commit r).gates = s.gates := by rw [commit_eq]

@[simp] theorem commit_phase (r : Word) (s : State) : (s.commit r).phase = .fetch := by rw [commit_eq]

@[simp] theorem commit_w8 (r : Word) (s : State) :
    (s.commit r).wires.w8 = if s.wires.w1 && s.gates.g1 then positiveFlag r else s.wires.w8 := by
  rw [commit_eq]; split <;> rfl

@[simp] theorem commit_w9 (r : Word) (s : State) :
    (s.commit r).wires.w9 = if s.wires.w1 && s.gates.g1 then zeroFlag r else s.wires.w9 := by
  rw [commit_eq]; split <;> rfl

@[simp] theorem commit_w10 (r : Word) (s : State) : (s.commit r).wires.w10 = s.wires.w10 := by
  rw [commit_eq]; dsimp only; split <;> rfl

/-! ### How a cycle ends, and what it keeps -/

/-- The three ends of a cycle whose DECODE left `d` (R120, R133, R148). -/
inductive State.EndsIn (d : State) : State → Prop where
  | halt (h : d.eff 0 = false) : State.EndsIn d d.enterHalt
  | fault (h : d.result = none) : State.EndsIn d d.enterFault
  | commit (r : Word) (h : d.result = some r) : State.EndsIn d (d.commit r)

theorem endsIn_executePhase (d : State) : d.EndsIn d.executePhase := by
  unfold State.executePhase
  split
  · next r hr => exact .commit r hr
  · next hr => exact .fault hr

theorem endsIn_checkThenExecute (d : State) : d.EndsIn d.checkThenExecute := by
  rw [checkThenExecute_eq]
  split
  · exact endsIn_executePhase d
  · next h => exact .halt (Bool.eq_false_of_not_eq_true h)

theorem State.EndsIn.atBoundary {d t : State} (h : d.EndsIn t) : t.AtBoundary := by
  cases h with
  | halt => exact .inr (.inl rfl)
  | fault => exact .inr (.inr rfl)
  | commit r => exact .inl (commit_phase r d)

theorem exec_endsIn {i : Instr} {s t : State} (h : exec i s = .next t) :
    (s.latchWord i.opcode i.highByte i.lowByte).decodePhase.EndsIn t := by
  rw [exec_eq_runWord] at h
  cases h
  exact endsIn_checkThenExecute _

/-- Every step ends a cycle: that of the fetched word, or the one the state stands in. -/
theorem step_endsIn {s t : State} (h : step s = .next t) :
    ∃ d : State, d.EndsIn t ∧
      (d = s ∨ d = s.decodePhase ∨ ∃ op ah al : Byte, d = (s.latchWord op ah al).decodePhase) := by
  obtain ⟨-, hexec⟩ | ⟨-, rfl⟩ | ⟨-, rfl⟩ | ⟨-, rfl⟩ := step_cases h
  · exact ⟨_, exec_endsIn hexec, .inr (.inr ⟨_, _, _, rfl⟩)⟩
  · exact ⟨_, endsIn_checkThenExecute _, .inr (.inl rfl)⟩
  · exact ⟨_, endsIn_checkThenExecute _, .inl rfl⟩
  · exact ⟨_, endsIn_executePhase _, .inl rfl⟩

theorem atBoundary_of_step {s t : State} (h : step s = .next t) : t.AtBoundary := by
  obtain ⟨_, hend, -⟩ := step_endsIn h
  exact hend.atBoundary

/-- `P` is kept by latching a word, by DECODE and by each end of a cycle; by `of_step`, then, by every step. -/
structure KeptByCycle (P : State → Prop) : Prop where
  latchWord : ∀ {s : State} (op ah al : Byte), P s → P (s.latchWord op ah al)
  decodePhase : ∀ {s : State}, P s → P s.decodePhase
  enterHalt : ∀ {s : State}, P s → P s.enterHalt
  enterFault : ∀ {s : State}, s.result = none → P s → P s.enterFault
  commit : ∀ {s : State} (r : Word), P s → P (s.commit r)

theorem KeptByCycle.of_endsIn {P : State → Prop} (hP : KeptByCycle P) {d t : State} (h : d.EndsIn t) (hd : P d) :
    P t := by
  cases h with
  | halt => exact hP.enterHalt hd
  | fault hnone => exact hP.enterFault hnone hd
  | commit r => exact hP.commit r hd

theorem KeptByCycle.of_step {P : State → Prop} (hP : KeptByCycle P) {s t : State} (h : step s = .next t) (hs : P s) :
    P t := by
  obtain ⟨d, hend, hd⟩ := step_endsIn h
  refine hP.of_endsIn hend ?_
  obtain rfl | rfl | ⟨op, ah, al, rfl⟩ := hd
  · exact hs
  · exact hP.decodePhase hs
  · exact hP.decodePhase (hP.latchWord op ah al hs)

/-- What every step keeps, every run keeps. -/
theorem Reaches.keeps {P : State → Prop} (hP : ∀ {u v : State}, step u = .next v → P u → P v) {s t : State}
    (h : Reaches s t) (hs : P s) : P t := by
  induction h with
  | refl => exact hs
  | tail _ hstep ih => exact hP hstep ih

/-! ### The invariants of every step (R31, R34) -/

theorem inv_commit {s : State} (r : Word) (hs : s.Inv) : (s.commit r).Inv := by
  obtain ⟨hmem, hw10⟩ := hs
  refine ⟨?_, (commit_w10 r s).trans hw10⟩
  rw [commit_mem]
  split
  · exact wf_memWrite2 hmem _ _
  · exact hmem

theorem keptByCycle_inv : KeptByCycle State.Inv where
  latchWord _ _ _ hs := hs
  decodePhase hs := hs
  enterHalt hs := hs
  enterFault _ hs := hs
  commit := inv_commit

/-- Settles O10: of all a cycle does only the write-back touches memory, through `memWrite2`, and nothing wire 10. -/
theorem everyStepKeepsTheInvariant : Obligations.EveryStepKeepsTheInvariant :=
  fun _ _ hs h => keptByCycle_inv.of_step h hs

/-- The flags of a latched result stand as in case (b) or (c): `W[8]` is `result != 0`, unsigned (the spec's decision D8). -/
theorem flagInv_of_latched {t : State} {r : Word} (hax : t.ax = r) (h8 : t.wires.w8 = positiveFlag r)
    (h9 : t.wires.w9 = zeroFlag r) : t.FlagInv := by
  rw [positiveFlag_eq] at h8
  rw [zeroFlag_eq] at h9
  by_cases hr : r = 0
  · exact .inr (.inr ⟨hax.trans hr, h8.trans (decide_eq_false (not_not.2 hr)), h9.trans (decide_eq_true hr)⟩)
  · exact .inr (.inl ⟨hax ▸ hr, h8.trans (decide_eq_true hr), h9.trans (decide_eq_false hr)⟩)

theorem flagInv_commit {s : State} (r : Word) (hs : s.FlagInv) : (s.commit r).FlagInv := by
  cases hlatch : s.wires.w1 && s.gates.g1 with
  | true => exact flagInv_of_latched (r := r) (by simp [hlatch]) (by simp [hlatch]) (by simp [hlatch])
  | false => simpa [State.FlagInv, hlatch] using hs

theorem keptByCycle_flagInv : KeptByCycle State.FlagInv where
  latchWord _ _ _ hs := hs
  decodePhase hs := hs
  enterHalt hs := hs
  enterFault _ hs := hs
  commit := flagInv_commit

/-- Settles O11: AX and the two flags are only ever written together, from one result. -/
theorem everyStepKeepsTheFlagInvariant : Obligations.EveryStepKeepsTheFlagInvariant :=
  fun _ _ hs h => keptByCycle_flagInv.of_step h hs

/-! ### Cut gates (R272, R273, R276, R277) -/

/-- `t` has the gates of `s` and everything that a cut gate of `s` protects from being written. -/
def State.KeepsCutParts (s t : State) : Prop :=
  t.gates = s.gates ∧
  (s.gates.g5 = false → t.mem = s.mem) ∧
  (s.gates.g1 = false → t.ax = s.ax ∧ t.wires.w8 = s.wires.w8 ∧ t.wires.w9 = s.wires.w9) ∧
  (s.gates.g2 = false → t.si = s.si)

theorem keepsCutParts_refl (s : State) : s.KeepsCutParts s :=
  ⟨rfl, fun _ => rfl, fun _ => ⟨rfl, rfl, rfl⟩, fun _ => rfl⟩

theorem keepsCutParts_commit {s d : State} (r : Word) (h : s.KeepsCutParts d) : s.KeepsCutParts (d.commit r) := by
  obtain ⟨hgates, hmem, hax, hsi⟩ := h
  refine ⟨(commit_gates r d).trans hgates, fun hcut => ?_, fun hcut => ?_, fun hcut => ?_⟩
  · simpa [hgates, hcut] using hmem hcut
  · simpa [hgates, hcut] using hax hcut
  · simpa [hgates, hcut] using hsi hcut

theorem keptByCycle_keepsCutParts (s : State) : KeptByCycle s.KeepsCutParts where
  latchWord _ _ _ h := h
  decodePhase h := h
  enterHalt h := h
  enterFault _ h := h
  commit := keepsCutParts_commit

/-- Settles O34: each of EXECUTE's writes is guarded by its gate, and no phase writes the gates. -/
theorem cutGatesFreezeState : Obligations.CutGatesFreezeState :=
  fun s _ h => (keptByCycle_keepsCutParts s).of_step h (keepsCutParts_refl s)

theorem gates_of_step {s t : State} (h : step s = .next t) : t.gates = s.gates :=
  (cutGatesFreezeState s t h).1

/-- With gate 6 cut the selector is 0, which has a function (R142, R143). -/
theorem result_ne_none_of_gate6_cut {s : State} (h : s.gates.g6 = false) : s.result ≠ none := by
  simp [result_eq, h]

theorem keptByCycle_gate6Cut_notFault :
    KeptByCycle fun s => s.gates.g6 = false ∧ s.phase ≠ .fault where
  latchWord _ _ _ := fun ⟨hcut, _⟩ => ⟨hcut, Phase.noConfusion⟩
  decodePhase := fun ⟨hcut, _⟩ => ⟨hcut, Phase.noConfusion⟩
  enterHalt := fun ⟨hcut, _⟩ => ⟨hcut, Phase.noConfusion⟩
  enterFault hnone := fun ⟨hcut, _⟩ => absurd hnone (result_ne_none_of_gate6_cut hcut)
  commit {s} r := fun ⟨hcut, _⟩ => ⟨(congrArg Gates.g6 (commit_gates r s)).trans hcut, by simp⟩

/-- Settles O14: the gates are constant, and without gate 6 the ALU always answers. -/
theorem gateSixCutNeverFaults : Obligations.GateSixCutNeverFaults := by
  intro s hcut hphase t hreach
  have ht : t.gates.g6 = false ∧ t.phase ≠ .fault :=
    hreach.keeps keptByCycle_gate6Cut_notFault.of_step ⟨hcut, hphase⟩
  exact ht.2

/-! ### Reset and boot (R40, R332) -/

/-- Settles O1, field by field. -/
theorem resetState : Obligations.ResetState :=
  ⟨rfl, rfl, rfl, rfl, fun _ => rfl, by decide, by decide⟩

/-- Case (a) of the flag invariant: neither flag has been latched. -/
theorem flagInv_of_wires_reset {s : State} (hax : s.ax = 0) (hw : s.wires = Wires.reset) : s.FlagInv :=
  .inl ⟨hax, congrArg Wires.w8 hw, congrArg Wires.w9 hw⟩

/-- Settles O2: case (a), by the reset values of the spec's decision D2. -/
theorem resetMeetsTheInvariants : Obligations.ResetMeetsTheInvariants :=
  ⟨⟨wf_reset, rfl⟩, flagInv_of_wires_reset rfl rfl⟩

theorem eq_bootImage_of_boot {config : Option (List Char)} {image : List Byte} {s : State}
    (h : boot config image = some s) : s = bootImage config image := by
  unfold boot at h
  split at h
  · exact (Option.some.inj h).symm
  · cases h

/-- Under the flag invariant gate 8 alone decides the sign: where `W[8]` is false AX is 0, its own negation (R152). -/
theorem signAdjusted_of_flagInv {s : State} (h : s.FlagInv) :
    signAdjusted s = if s.gates.g8 then s.ax else -s.ax := by
  unfold signAdjusted
  obtain ⟨hax, -, -⟩ | ⟨-, h8, h9⟩ | ⟨hax, -, -⟩ := h
  · simp [hax]
  · simp [h8, h9]
  · simp [hax]

/-- What holds of every state of a run booted with `config`. -/
def State.RunInv (config : Option (List Char)) (s : State) : Prop :=
  s.Inv ∧ s.FlagInv ∧ s.AtBoundary ∧ s.gates = gatesFor config

theorem runInv_bootImage (config : Option (List Char)) (image : List Byte) : (bootImage config image).RunInv config :=
  ⟨⟨wf_bootImage config image, rfl⟩, flagInv_of_wires_reset rfl rfl, .inl rfl, rfl⟩

theorem runInv_of_step {config : Option (List Char)} {s t : State} (h : step s = .next t) (hs : s.RunInv config) :
    t.RunInv config := by
  obtain ⟨hinv, hflag, -, hgates⟩ := hs
  exact ⟨everyStepKeepsTheInvariant s t hinv h, everyStepKeepsTheFlagInvariant s t hflag h, atBoundary_of_step h,
    (gates_of_step h).trans hgates⟩

/-- Settles O12: boot meets the invariants, and every step of the run keeps them. -/
theorem runsFromBootKeepTheInvariants : Obligations.RunsFromBootKeepTheInvariants := by
  intro config image s t hboot hreach
  obtain rfl := eq_bootImage_of_boot hboot
  obtain ⟨hinv, hflag, hphase, hgates⟩ := hreach.keeps runInv_of_step (runInv_bootImage config image)
  exact ⟨hinv, hflag, hphase, hgates, signAdjusted_of_flagInv hflag⟩

/-! ### Who writes the registers (R25, R28) -/

/-- The field `p` asks for AX in rows 0 to E alone: row F has the sentinel 4 (R93). -/
theorem fieldP_eq_one_iff (op : Byte) : fieldP op = 1 ↔ op.toNat < 0xF0 ∧ op.toNat % 4 = 1 := by
  by_cases hlt : op.toNat < 0xF0
  · simp [fieldP_of_lt hlt, hlt]
  · have hrow : op4 op = 0xF := (op4_eq_iff op 0xF).2 (show op.toNat / 16 = 15 by have := op.isLt; omega)
    simp [fieldP, hrow, hlt]

/-- Settles O32: a halt and a fault write no register; of what EXECUTE writes, wire 1 guards AX with the flags and gate 2
guards SI. -/
theorem registerWriters : Obligations.RegisterWriters := by
  intro i s t h
  cases exec_endsIn h with
  | halt => exact ⟨fun _ => ⟨rfl, rfl, rfl⟩, fun _ => rfl, fun _ => rfl, rfl, rfl⟩
  | fault => exact ⟨fun _ => ⟨rfl, rfl, rfl⟩, fun _ => rfl, fun _ => rfl, rfl, rfl⟩
  | commit r =>
    refine ⟨fun hno => ?_, fun hno => ?_, fun hno => absurd (commit_phase r _) hno, commit_gates r _, commit_w10 r _⟩
    · have hw1 : (decide (fieldP i.opcode = 1) && s.gates.g1) = false := by
        simpa [fieldP_eq_one_iff, and_assoc] using hno
      simp [hw1]
    · have hg2 : s.gates.g2 = false := by simpa using hno
      simp [hg2]

/-! ### Steps from FETCH, HALT and FAULT (R38, R39) -/

theorem step_of_fetch {s : State} (h : s.phase = .fetch) : step s = exec s.fetchInstr s := by
  unfold step; rw [h]

theorem step_of_halt {s : State} (h : s.phase = .halt) : step s = .fault .halted := by
  unfold step; rw [h]

theorem step_of_fault {s : State} (h : s.phase = .fault) : step s = .fault .faulted := by
  unfold step; rw [h]

/-- Equality of all that outlives a cycle: everything but the phase, the latches and the raw wires 0 to 7 (R37, R39). -/
structure State.AgreesOutsideLatches (s s' : State) : Prop where
  ax : s.ax = s'.ax
  si : s.si = s'.si
  ip : s.ip = s'.ip
  mem : s.mem = s'.mem
  gates : s.gates = s'.gates
  w8 : s.wires.w8 = s'.wires.w8
  w9 : s.wires.w9 = s'.wires.w9
  w10 : s.wires.w10 = s'.wires.w10

/-- FETCH and DECODE overwrite all the rest. -/
theorem State.AgreesOutsideLatches.decoded_eq {s s' : State} (h : s.AgreesOutsideLatches s') (op ah al : Byte) :
    (s.latchWord op ah al).decodePhase = (s'.latchWord op ah al).decodePhase := by
  simp [latchWord_decodePhase, decodeWires, h.ax, h.si, h.ip, h.mem, h.gates, h.w8, h.w9, h.w10]

theorem State.AgreesOutsideLatches.fetchInstr_eq {s s' : State} (h : s.AgreesOutsideLatches s') :
    s.fetchInstr = s'.fetchInstr := by
  rw [State.fetchInstr, State.fetchInstr, h.mem, h.ip]

/-- Settles O40: the two states fetch the same word and are one state after DECODE. -/
theorem latchesDoNotCrossCycles : Obligations.LatchesDoNotCrossCycles := by
  intro s s' hs hs' hax hsi hip hmem hgates h8 h9 h10
  have h : s.AgreesOutsideLatches s' := ⟨hax, hsi, hip, hmem, hgates, h8, h9, h10⟩
  rw [step_of_fetch hs, step_of_fetch hs', h.fetchInstr_eq, exec_eq_runWord, exec_eq_runWord, State.runWord,
    State.runWord, h.decoded_eq]

theorem step_ne_next_of_terminal {s : State} (h : s.Terminal) (t : State) : step s ≠ .next t := by
  obtain hhalt | hfault := h
  · rw [step_of_halt hhalt]; exact nofun
  · rw [step_of_fault hfault]; exact nofun

theorem exists_step_of_not_terminal {s : State} (h : ¬ s.Terminal) : ∃ t : State, step s = .next t := by
  cases hp : s.phase with
  | fetch => exact ⟨_, (step_of_fetch hp).trans (exec_eq_runWord _ _)⟩
  | decode => exact ⟨_, by unfold step; rw [hp]⟩
  | checkRun => exact ⟨_, by unfold step; rw [hp]⟩
  | execute => exact ⟨_, by unfold step; rw [hp]⟩
  | halt => exact absurd (.inl hp) h
  | fault => exact absurd (.inr hp) h

theorem terminal_iff_no_step (s : State) : s.Terminal ↔ ∀ t : State, step s ≠ .next t := by
  refine ⟨step_ne_next_of_terminal, fun hno => ?_⟩
  by_contra hterm
  obtain ⟨t, ht⟩ := exists_step_of_not_terminal hterm
  exact hno t ht

theorem terminal_iff_phaseStep_eq_none (s : State) : s.Terminal ↔ s.phaseStep = none := by
  unfold State.phaseStep
  cases hp : s.phase <;> simp [State.Terminal, hp]

theorem eq_of_reaches_of_terminal {s t : State} (hs : s.Terminal) (h : Reaches s t) : t = s :=
  h.keeps (P := (· = s)) (fun hstep hu => absurd (hu ▸ hstep) (step_ne_next_of_terminal hs _)) rfl

/-- Settles O7, by the phase of the state. -/
theorem terminalPhasesTakeNoStep : Obligations.TerminalPhasesTakeNoStep := fun s =>
  ⟨terminal_iff_no_step s, terminal_iff_phaseStep_eq_none s, step_of_halt, step_of_fault,
    fun hs _ h => eq_of_reaches_of_terminal hs h⟩

/-! ### The configuration string (R30, R363) -/

theorem configGate_eq_false_iff (bits : List Char) (k : Nat) : configGate bits k = false ↔ bits[k]? = some '0' := by
  simp [configGate]

theorem gateOf_setConfig (bits : List Char) : ∀ k : Fin 11, k ≠ 10 → gateOf (setConfig bits) k = configGate bits k.val
  | 0, _ | 1, _ | 2, _ | 3, _ | 4, _ | 5, _ | 6, _ | 7, _ | 8, _ | 9, _ => rfl
  | 10, h => absurd rfl h

theorem gateOf_allEnabled : ∀ k : Fin 11, k ≠ 10 → gateOf Config.allEnabled k = true := by
  decide

/-- Settles O43: the gates of positions 0 to 9 are those the string gives. -/
theorem configurationStringSetsGates : Obligations.ConfigurationStringSetsGates := by
  refine ⟨fun bits k hk => ?_, gateOf_allEnabled⟩
  rw [gatesFor, gateOf_setConfig bits k hk, configGate_eq_false_iff]

end Sys2Proof.Machine
end

section
/-! PROOFS. The family 20_memory.md: what a byte read sees after a one-byte write, a 16-bit write, a boot, and a whole cycle of an
instruction. -/

namespace Sys2Proof.Machine

open Sys2Proof.Claims

/-! ### Writes read back at any integer address (R62 to R65, R69, R83) -/

/-- Two addresses name one cell when they differ by a multiple of the memory's size (00_scope.md R9). -/
theorem mod65536_eq_iff (a b : Int) : mod65536 a = mod65536 b ↔ a % 65536 = b % 65536 := by
  rw [← BitVec.toNat_inj, mod65536, mod65536, BitVec.toNat_ofInt, BitVec.toNat_ofInt]
  omega

/-- Settles O19: the cell of `a` is that of `c` exactly when the two agree modulo 65536. -/
theorem byteWriteSetsOneCell : Obligations.ByteWriteSetsOneCell := by
  intro m a c b hwf
  refine ⟨?_, fun hca => ?_⟩
  · rw [memRead1_memWrite1 hwf, if_pos rfl]
  · rw [memRead1_memWrite1 hwf, if_neg (mt (mod65536_eq_iff c a).1 hca)]

section WordWrite

variable {m : Memory} (h : Memory.wf m = true) (a : Int) (v : Word)
include h

theorem memRead1_memWrite2_high : memRead1 (memWrite2 m a v) a = highHalf v := by
  rw [memRead1_memWrite2 h, if_pos rfl]

theorem memRead1_memWrite2_low : memRead1 (memWrite2 m a v) (a + 1) = lowHalf v := by
  have hne : mod65536 (a + 1) ≠ mod65536 a := by
    rw [mod65536_add]
    exact (word_ne_succ _).symm
  rw [memRead1_memWrite2 h, if_neg hne, if_pos rfl]

theorem memRead1_memWrite2_other {c : Int} (hhigh : c % 65536 ≠ a % 65536) (hlow : c % 65536 ≠ (a + 1) % 65536) :
    memRead1 (memWrite2 m a v) c = memRead1 m c := by
  rw [memRead1_memWrite2 h, if_neg (mt (mod65536_eq_iff c a).1 hhigh),
    if_neg (mt (mod65536_eq_iff c (a + 1)).1 hlow)]

end WordWrite

/-- Settles O20: a 16-bit read puts together two byte reads, each of which sees the high half, the low half or the old cell. -/
theorem wordWriteThenReads : Obligations.WordWriteThenReads := by
  intro m a c v hwf
  have hhigh := memRead1_memWrite2_high hwf a v
  have hlow := memRead1_memWrite2_low hwf a v
  have hafter : memRead1 (memWrite2 m a v) (a + 1 + 1) = memRead1 m (a + 2) := by
    rw [add_assoc]
    exact memRead1_memWrite2_other hwf a v (by omega) (by omega)
  refine ⟨hhigh, hlow, ?_, ?_, memRead1_memWrite2_other hwf a v⟩
  · rw [memRead2, hhigh, hlow, ofHalves_halves]
  · rw [memRead2, hlow, hafter]

/-! ### The loader's bulk write (R80, R332, R364) -/

/-- A bulk write that stays below the top of memory, read back: the byte of the list where it has one, else the old cell. -/
theorem memRead1_bulkLoad {k : Nat} (hk : k < 65536) : ∀ (bytes : List Byte) {m : Memory} {offset : Nat},
    Memory.wf m = true → offset + bytes.length ≤ 65536 →
      memRead1 (bulkLoad m offset bytes) k = if k < offset then memRead1 m k else bytes.getD (k - offset) (memRead1 m k)
  | [], _, _, _, _ => by simp [bulkLoad]
  | b :: bytes, m, offset, hwf, hfit => by
    rw [List.length_cons] at hfit
    have ih := memRead1_bulkLoad hk bytes (offset := offset + 1) (wf_memWrite1 hwf offset b) (by omega)
    have hcell : mod65536 (k : Int) = mod65536 (offset : Int) ↔ k = offset := by
      rw [mod65536_eq_iff]
      omega
    rw [bulkLoad, ih, memRead1_memWrite1 hwf]
    obtain hlt | rfl | hgt := lt_trichotomy k offset
    · rw [if_neg (mt hcell.1 hlt.ne), if_pos (Nat.lt_succ_of_lt hlt), if_pos hlt]
    · simp
    · have hidx : k - offset = k - (offset + 1) + 1 := by omega
      rw [if_neg (mt hcell.1 hgt.ne'), if_neg (by omega), if_neg (by omega), hidx, List.getD_cons_succ]

theorem boot_eq_none {image : List Byte} (h : 65536 < image.length) (config : Option (List Char)) :
    boot config image = none :=
  if_neg fun hfits => absurd (of_decide_eq_true hfits) (Nat.not_le.2 h)

theorem boot_eq_some {image : List Byte} (h : image.length ≤ 65536) (config : Option (List Char)) :
    boot config image = some (bootImage config image) :=
  if_pos (decide_eq_true h)

theorem memRead1_bootImage (config : Option (List Char)) {image : List Byte} (hfit : image.length ≤ 65536) {k : Nat}
    (hk : k < 65536) : memRead1 (bootImage config image).mem k = image.getD k 0 := by
  rw [bootImage_mem, memRead1_bulkLoad hk image rfl (by omega)]
  rfl

/-- Settles O44: an image that fits is bulk-written to the memory of the reset state, which reads 0 everywhere. -/
theorem bootLoadsTheImage : Obligations.BootLoadsTheImage := by
  intro config image
  refine ⟨fun hlong => boot_eq_none hlong config, fun hfit => ⟨bootImage config image, boot_eq_some hfit config, ?_⟩⟩
  exact ⟨rfl, rfl, rfl, rfl, rfl, rfl, rfl, wf_bootImage config image, fun _ hk => memRead1_bootImage config hfit hk⟩

/-! ### What an instruction leaves of memory (R70, R137) -/

theorem fieldP_of_rowF {op : Byte} (h : 0xF0 ≤ op.toNat) : fieldP op = 4 := by
  have := op.isLt
  exact if_pos ((op4_eq_iff op 0xF).2 (show op.toNat / 16 = 15 by omega))

/-- The field `p` asks for memory in rows 0 to E alone: row F has the sentinel 4 (R93). -/
theorem fieldP_eq_zero_iff (op : Byte) : fieldP op = 0 ↔ op.toNat < 0xF0 ∧ op.toNat % 4 = 0 := by
  by_cases hlt : op.toNat < 0xF0
  · simp [fieldP_of_lt hlt, hlt]
  · simp [fieldP_of_rowF (Nat.le_of_not_lt hlt), hlt]

/-- The forms that write back to memory when their cycle completes: rows 0 to E with the destination memory, gate 5 enabled. -/
def Stores (i : Instr) (s : State) : Prop :=
  i.opcode.toNat < 0xF0 ∧ i.opcode.toNat % 4 = 0 ∧ s.gates.g5 = true

theorem wire5_eff_iff_stores (i : Instr) (s : State) :
    (s.latchWord i.opcode i.highByte i.lowByte).decodePhase.eff 5 = true ↔ Stores i s := by
  simp [Stores, fieldP_eq_zero_iff, and_assoc]

/-- All that an instruction can do to memory: one 16-bit write at EA by a storing form that completes, or nothing. -/
theorem exec_mem_cases {i : Instr} {s t : State} (h : exec i s = .next t) :
    (Stores i s ∧ t.phase = .fetch ∧ ∃ r : Word, t.mem = memWrite2 s.mem (ea s i.highByte i.lowByte).toNat r) ∨
    (¬ (Stores i s ∧ t.phase = .fetch) ∧ t.mem = s.mem) := by
  cases exec_endsIn h with
  | halt => exact .inr ⟨fun ⟨_, hfetch⟩ => Phase.noConfusion hfetch, rfl⟩
  | fault => exact .inr ⟨fun ⟨_, hfetch⟩ => Phase.noConfusion hfetch, rfl⟩
  | commit r =>
    rw [commit_mem, ← eff_5]
    by_cases hstores : Stores i s
    · rw [if_pos ((wire5_eff_iff_stores i s).2 hstores)]
      exact .inl ⟨hstores, commit_phase r _, r, rfl⟩
    · rw [if_neg (mt (wire5_eff_iff_stores i s).1 hstores)]
      exact .inr ⟨fun ⟨hs, _⟩ => hstores hs, rfl⟩

/-- Settles O33: the one write a completed store makes, read at another word, or a memory left as it was. -/
theorem memoryFrame : Obligations.MemoryFrame := by
  intro i s t hwf h
  obtain ⟨⟨hrow, hp, hg5⟩, hfetch, r, hmem⟩ | ⟨hno, hmem⟩ := exec_mem_cases h
  · refine ⟨fun _ a hhigh hlow => ?_, fun hno => absurd ⟨hrow, hp, hg5, hfetch⟩ hno⟩
    rw [hmem, memRead1_memWrite2_word hwf, if_neg hhigh, if_neg hlow]
  · refine ⟨fun ⟨hrow, hp, hg5, hfetch⟩ => absurd ⟨⟨hrow, hp, hg5⟩, hfetch⟩ hno, fun _ a => ?_⟩
    rw [hmem]

end Sys2Proof.Machine
end

section
/-! PROOFS. The family 30_encoding.md: the encoder and the decoder are inverse to each other, the operand address is a 16-bit sum,
bit 3 of an opcode outside row F is ignored, and the loader reads a program text of byte tokens. -/

namespace Sys2Proof.Machine

open Sys2Proof.Claims

/-! ### The fields of an opcode byte (R92) -/

theorem nibblesOpcode_nibbles (op : Byte) : nibblesOpcode (op4 op) (op.extractLsb' 0 4) = op :=
  BitVec.extractLsb'_append_extractLsb' (w := 4) (len := 4)

theorem rowOpcode_fields (op : Byte) : rowOpcode (op4 op) (op.getLsbD 3) (op.extractLsb' 0 3) = op := by
  have hb3 : BitVec.ofBool (op.getLsbD 3) = op.extractLsb' 3 1 := by
    ext k hk
    obtain rfl : k = 0 := by omega
    simp
  have hlow : (BitVec.ofBool (op.getLsbD 3) ++ op.extractLsb' 0 3 : BitVec 4) = op.extractLsb' 0 4 := by
    rw [hb3]
    exact BitVec.extractLsb'_append_extractLsb'_eq_extractLsb' rfl
  rw [rowOpcode, hlow]
  exact nibblesOpcode_nibbles op

theorem low3_eq_bits (op : Byte) :
    op.extractLsb' 0 3 = BitVec.ofBoolListBE [op.getLsbD 2, op.getLsbD 1, op.getLsbD 0] := by
  ext k hk
  match k, hk with
  | 0, _ | 1, _ | 2, _ => simp [BitVec.ofBoolListBE, BitVec.getElem_cons]

theorem nibble_eq_bits (op : Byte) (k : Nat) :
    op.extractLsb' k 4 =
      BitVec.ofBoolListBE [op.getLsbD (k + 3), op.getLsbD (k + 2), op.getLsbD (k + 1), op.getLsbD k] := by
  ext j hj
  match j, hj with
  | 0, _ | 1, _ | 2, _ | 3, _ => simp [BitVec.ofBoolListBE, BitVec.getElem_cons]

theorem getLsbD_nibblesOpcode_high (row low : BitVec 4) (k : Nat) :
    (nibblesOpcode row low).getLsbD (k + 4) = row.getLsbD k :=
  BitVec.getLsbD_append.trans (by simp)

theorem extractLsb'_nibblesOpcode_low (row low : BitVec 4) : (nibblesOpcode row low).extractLsb' 0 4 = low :=
  BitVec.extractLsb'_append_eq_right

/-! ### Encoding what was decoded (R90, R103) -/

/-- Rows 0 to 3 are a table of eight forms, looked up by the bits `i p1 p0` (R97). -/
theorem decodeRow_eq_table (op : Byte) (m a s n mi ai si ni : Bool → Instr) :
    decodeRow op m a s n mi ai si ni =
      ![m, a, s, n, mi, ai, si, ni] (op.extractLsb' 0 3).toFin (op.getLsbD 3) := by
  rw [low3_eq_bits]
  unfold decodeRow
  split <;> next h2 h1 h0 => rw [h2, h1, h0]; rfl

/-- A row whose eight forms encode to their own opcodes gives back the word it was decoded from. -/
theorem encode_decodeRow {op ah al : Byte} {m a s n mi ai si ni : Bool → Instr}
    (h : ∀ (k : Fin 8) (b3 : Bool),
      encode (![m, a, s, n, mi, ai, si, ni] k b3) = [rowOpcode (op4 op) b3 (BitVec.ofFin k), ah, al]) :
    encode (decodeRow op m a s n mi ai si ni) = [op, ah, al] := by
  rw [decodeRow_eq_table, h]
  exact congrArg (fun x => [x, ah, al]) (rowOpcode_fields op)

theorem encode_decodeRowF {op : Byte} (hrow : op4 op = 0xF) (ah al : Byte) :
    encode (decodeRowF op ah al) = [op, ah, al] := by
  have hop := nibblesOpcode_nibbles op
  rw [hrow, nibble_eq_bits] at hop
  unfold decodeRowF
  split <;> next h3 h2 h1 h0 => rw [h3, h2, h1, h0] at hop; rw [← hop]; rfl

/-- By the row of the opcode: a family, a reserved row, which keeps its low nibble, or row F. -/
theorem encode_decodeWord (op ah al : Byte) : encode (decodeWord op ah al) = [op, ah, al] := by
  have hop := nibblesOpcode_nibbles op
  have hrow : op4 op = _ := nibble_eq_bits op 4
  unfold decodeWord
  split <;> rename_i h7 h6 h5 h4 <;> rw [h7, h6, h5, h4] at hrow
  case h_1 | h_2 | h_3 | h_4 =>
    refine encode_decodeRow fun k b3 => ?_
    rw [hrow]
    match k with
    | 0 | 1 | 2 | 3 | 4 | 5 | 6 | 7 => rfl
  case h_16 => exact encode_decodeRowF hrow ah al
  all_goals
    rw [hrow] at hop
    exact congrArg (fun x => [x, ah, al]) hop

@[simp] theorem opcode_decodeWord (op ah al : Byte) : (decodeWord op ah al).opcode = op :=
  (List.cons.inj (encode_decodeWord op ah al)).1

@[simp] theorem highByte_decodeWord (op ah al : Byte) : (decodeWord op ah al).highByte = ah :=
  (List.cons.inj (List.cons.inj (encode_decodeWord op ah al)).2).1

@[simp] theorem lowByte_decodeWord (op ah al : Byte) : (decodeWord op ah al).lowByte = al :=
  (List.cons.inj (List.cons.inj (List.cons.inj (encode_decodeWord op ah al)).2).2).1

theorem exec_decodeWord (op ah al : Byte) (s : State) : exec (decodeWord op ah al) s = .next (s.runWord op ah al) := by
  rw [exec_eq_runWord, opcode_decodeWord, highByte_decodeWord, lowByte_decodeWord]

theorem length_lt_three_iff_truncated : ∀ bytes : List Byte, bytes.length < 3 ↔ decode bytes = .error .truncated
  | [] | [_] | [_, _] => iff_of_true (by simp) rfl
  | _ :: _ :: _ :: _ => iff_of_false (by simp) nofun

/-- Settles O4: the bytes of a decoded word row by row, and the short lists by their length. -/
theorem encodeOfDecode : Obligations.EncodeOfDecode := ⟨encode_decodeWord, length_lt_three_iff_truncated⟩

/-! ### Decoding what was encoded (R91, R92) -/

/-- By the kind of row: in rows 0 to 3 bit 3 is the only free bit of the opcode, in row F none is, and a reserved row reads its
low nibble back whatever it is. -/
theorem decodeWord_opcode (i : Instr) : decodeWord i.opcode i.highByte i.lowByte = i := by
  cases i with
  | sgnm b3 | sgna b3 | sgns b3 | sgnn b3 | sgnmi b3 | sgnai b3 | sgnsi b3 | sgnni b3
  | movm b3 | mova b3 | movs b3 | movn b3 | movmi b3 | movai b3 | movsi b3 | movni b3
  | addm b3 | adda b3 | adds b3 | addn b3 | addmi b3 | addai b3 | addsi b3 | addni b3
  | subm b3 | suba b3 | subs b3 | subn b3 | submi b3 | subai b3 | subsi b3 | subni b3 =>
    dsimp only [Instr.opcode, Instr.highByte, Instr.lowByte]
    cases b3 <;> rfl
  | hlt | jmp | jmpb | jz | jp | nopfF2 | nopfF3 | nopfF5 | nopfF6 | nopfF7 | nopfF8 | nopfF9 | nopfFA | nopfFB | nopfFC
  | nopfFD =>
    dsimp only [Instr.opcode, Instr.highByte, Instr.lowByte]
    rfl
  | rsv4 low | rsv5 low | rsv6 low | rsv7 low | rsv8 low | rsv9 low | rsvA low | rsvB low | rsvC low | rsvD low
  | rsvE low =>
    simp only [Instr.opcode, Instr.highByte, Instr.lowByte, decodeWord, getLsbD_nibblesOpcode_high _ low,
      extractLsb'_nibblesOpcode_low]
    rfl

/-- Settles O3: the decoder takes the three bytes off the list, and they decode to the instruction. -/
theorem decodeOfEncode : Obligations.DecodeOfEncode := fun i rest _ =>
  calc decode (encode i ++ rest)
    _ = .ok (decodeWord i.opcode i.highByte i.lowByte, rest) := rfl
    _ = .ok (i, rest) := by rw [decodeWord_opcode]

/-- Settles O5, word by word. -/
theorem writtenWordsDecode : Obligations.WrittenWordsDecode := ⟨rfl, rfl, rfl, rfl, rfl, rfl, rfl⟩

/-! ### The operand address (R94, R122) -/

theorem toNat_highHalf (v : Word) : (highHalf v).toNat = v.toNat / 256 := by
  have := v.isLt
  rw [highHalf, BitVec.extractLsb'_toNat, Nat.shiftRight_eq_div_pow]
  omega

theorem toNat_lowHalf (v : Word) : (lowHalf v).toNat = v.toNat % 256 := by
  rw [lowHalf, BitVec.extractLsb'_toNat, Nat.shiftRight_zero]

theorem toNat_ofHalves (hi lo : Byte) : (ofHalves hi lo).toNat = 256 * hi.toNat + lo.toNat := by
  rw [ofHalves, BitVec.toNat_append, ← Nat.shiftLeft_add_eq_or_of_lt lo.isLt, Nat.shiftLeft_eq]
  omega

theorem toNat_effectiveAddress (ah al : Byte) (si : Word) :
    (effectiveAddress ah al si).toNat = (256 * ah.toNat + al.toNat + si.toNat) % 65536 := by
  rw [effectiveAddress, mod65536_natCast, BitVec.toNat_ofNat, Nat.shiftLeft_eq, toNat_highHalf, toNat_lowHalf]
  omega

theorem effectiveAddress_eq (ah al : Byte) (si : Word) : effectiveAddress ah al si = ofHalves ah al + si := by
  apply BitVec.eq_of_toNat_eq
  rw [toNat_effectiveAddress, BitVec.toNat_add, toNat_ofHalves]

/-- Settles O15: the two halves of SI, each at its own weight, sum to SI. -/
theorem effectiveAddressIsRawPlusIndex : Obligations.EffectiveAddressIsRawPlusIndex := fun ah al si =>
  ⟨effectiveAddress_eq ah al si, toNat_effectiveAddress ah al si⟩

/-! ### Bit 3 of an opcode (R99) -/

/-- A field of the opcode that bit 3 is no part of. -/
theorem extractLsb'_xor_eight {k n : Nat} (op : Byte) (h : (8 : Byte).extractLsb' k n = 0#n) :
    (op ^^^ 8).extractLsb' k n = op.extractLsb' k n := by
  rw [BitVec.extractLsb'_xor, h, BitVec.xor_zero]

theorem op4_xor_eight (op : Byte) : op4 (op ^^^ 8) = op4 op := extractLsb'_xor_eight op rfl

theorem fieldP_xor_eight (op : Byte) : fieldP (op ^^^ 8) = fieldP op := by
  rw [fieldP, fieldP, op4_xor_eight, extractLsb'_xor_eight op rfl]

theorem fieldI_xor_eight (op : Byte) : fieldI (op ^^^ 8) = fieldI op := by
  rw [fieldI, fieldI, op4_xor_eight, extractLsb'_xor_eight op rfl]

theorem xor_eight_lt_rowF {op : Byte} (h : op.toNat < 0xF0) : (op ^^^ 8).toNat < 0xF0 := by
  have hrow := congrArg BitVec.toNat (op4_xor_eight op)
  rw [op4_toNat, op4_toNat] at hrow
  omega

/-- Outside row F a cycle sees of its opcode only the fields `p` and `i`, and `op4` where gate 6 is enabled (R123, R142). -/
theorem runWord_eq_of_same_fields {op op' : Byte} {s : State} (h : op.toNat < 0xF0) (h' : op'.toNat < 0xF0)
    (hp : fieldP op' = fieldP op) (hi : fieldI op' = fieldI op) (hrow : s.gates.g6 = true → op4 op' = op4 op)
    (ah al : Byte) : s.runWord op' ah al = { s.runWord op ah al with op := op' } := by
  have hwires (e8 e9 : Bool) (w : Wires) : decodeWires op' e8 e9 w = decodeWires op e8 e9 w := by
    rw [decodeWires_of_lt h', decodeWires_of_lt h, ← fieldP_of_lt h', ← fieldP_of_lt h, ← decide_fieldI_of_lt h',
      ← decide_fieldI_of_lt h, hp, hi]
  have hresult : (s.latchWord op' ah al).decodePhase.result = (s.latchWord op ah al).decodePhase.result := by
    rw [result_decoded, result_decoded, hi]
    cases hg6 : s.gates.g6 with
    | false => rfl
    | true => rw [hrow hg6]
  have hhlt : decide (op' ≠ 0xFF) = decide (op ≠ 0xFF) := by
    have hne : op ≠ 0xFF := ne_of_toNat_lt (h.trans (by decide))
    have hne' : op' ≠ 0xFF := ne_of_toNat_lt (h'.trans (by decide))
    rw [decide_eq_true hne, decide_eq_true hne']
  rw [runWord_eq, runWord_eq, hwires, hresult, hp, hhlt]
  dsimp only
  split
  · split <;> rfl
  · rfl

/-- Settles O38: bit 3 is in none of the fields a cycle sees. -/
theorem bitThreeIsIgnored : Obligations.BitThreeIsIgnored := by
  intro s op ah al h
  refine ⟨s.runWord op ah al, exec_decodeWord op ah al s, ?_⟩
  rw [exec_decodeWord, runWord_eq_of_same_fields h (xor_eight_lt_rowF h) (fieldP_xor_eight op) (fieldI_xor_eight op)
    fun _ => op4_xor_eight op]

/-! ### The loader on a text of byte tokens (R107, R364) -/

theorem hexValue_hexDigit {n : Nat} (h : n < 16) : hexValue (hexDigit n) = some n :=
  (by decide : ∀ n < 16, hexValue (hexDigit n) = some n) n h

/-- Neither white space nor the start of a comment. -/
def IsTokenChar (c : Char) : Prop := c ≠ '\n' ∧ c ≠ ';' ∧ isBlank c = false

theorem isTokenChar_hexDigit {n : Nat} (h : n < 16) : IsTokenChar (hexDigit n) :=
  (by decide : ∀ n < 16, hexDigit n ≠ '\n' ∧ hexDigit n ≠ ';' ∧ isBlank (hexDigit n) = false) n h

theorem tokensFrom_cons_of_isTokenChar {c : Char} (h : IsTokenChar c) (line : Nat) (token text : List Char) :
    tokensFrom line false token (c :: text) = tokensFrom line false (c :: token) text := by
  obtain ⟨hline, hcomment, hblank⟩ := h
  simp [tokensFrom, hline, hcomment, hblank]

theorem tokensFrom_cons_space (line : Nat) (token text : List Char) :
    tokensFrom line false token (' ' :: text) = closeToken line token (tokensFrom line false [] text) := rfl

theorem tokensFrom_hexByte_append (line : Nat) (b : Byte) (text : List Char) :
    tokensFrom line false [] (hexByte b ++ ' ' :: text) = (line, hexByte b) :: tokensFrom line false [] text := by
  have hhigh : b.toNat / 16 < 16 := by omega
  have hlow : b.toNat % 16 < 16 := by omega
  rw [hexByte, List.cons_append, List.cons_append, List.nil_append,
    tokensFrom_cons_of_isTokenChar (isTokenChar_hexDigit hhigh),
    tokensFrom_cons_of_isTokenChar (isTokenChar_hexDigit hlow), tokensFrom_cons_space]
  rfl

theorem tokensFrom_hexText (line : Nat) :
    ∀ bytes : List Byte, tokensFrom line false [] (hexText bytes) = bytes.map fun b => (line, hexByte b)
  | [] => rfl
  | b :: bytes => by rw [hexText, tokensFrom_hexByte_append, tokensFrom_hexText line bytes, List.map_cons]

theorem pairBytes_hexByte (b : Byte) : pairBytes (hexByte b) = some [b] := by
  have hhigh : hexValue (hexDigit (b.toNat / 16)) = some (b.toNat / 16) := hexValue_hexDigit (by omega)
  have hlow : hexValue (hexDigit (b.toNat % 16)) = some (b.toNat % 16) := hexValue_hexDigit (by omega)
  simp [hexByte, pairBytes, hhigh, hlow, Nat.div_add_mod]

theorem readToken_hexByte (line : Nat) (b : Byte) : readToken line (hexByte b) = .ok [b] := by
  have heven : (hexByte b).length % 2 ≠ 1 := show 2 % 2 ≠ 1 by decide
  rw [readToken, if_neg heven, pairBytes_hexByte]

/-- One byte token takes one byte of the room; the first for which none is left is refused. -/
theorem readTokens_hexBytes (line : Nat) : ∀ (bytes : List Byte) (room : Nat),
    readTokens room (bytes.map fun b => (line, hexByte b)) =
      bytes[room]?.elim (.ok bytes) fun b => .error (.tooLong (hexByte b) line)
  | [], _ => rfl
  | b :: bytes, 0 => by simp [readTokens, readToken_hexByte]
  | b :: bytes, room + 1 => by
    have hroom : ¬ room + 1 < 1 := by omega
    simp only [List.map_cons, readTokens, readToken_hexByte, List.length_singleton, hroom, if_false,
      Nat.add_sub_cancel, readTokens_hexBytes line bytes room, List.getElem?_cons_succ]
    cases bytes[room]? <;> rfl

/-- Settles O49: the tokens of the text are its bytes, all on line 1, read with room for 65536. -/
theorem loaderReadsHexText : Obligations.LoaderReadsHexText := by
  intro bytes
  rw [loadText, tokensFrom_hexText, readTokens_hexBytes, Config.memSize]
  cases bytes[65536]? <;> rfl

end Sys2Proof.Machine
end

section
/-! PROOFS. The family 40_cycle_and_control_wires.md: which selectors have no ALU function, what DECODE writes, how a cycle goes
on from CHECK-RUN, and from these the two ends of a run, HALT and FAULT, and the one-shot index. -/

namespace Sys2Proof.Machine

open Sys2Proof.Claims

/-! ### Selectors without function (R142, R148) -/

/-- The selectors that have an ALU function (R143 to R147). -/
def functionSelectors : List (BitVec 4) := [0x0, 0x1, 0x2, 0x3, 0xF]

theorem aluFunction_eq_none_iff (sel : BitVec 4) : aluFunction sel = none ↔ sel ∉ functionSelectors := by
  unfold aluFunction functionSelectors
  split_ifs <;> simp_all

theorem not_mem_functionSelectors_iff :
    ∀ sel : BitVec 4, sel ∉ functionSelectors ↔ 4 ≤ sel.toNat ∧ sel.toNat ≤ 14 := by
  decide

theorem alu_eq_none_iff (e8 e9 : Bool) (sel : BitVec 4) (first second : Word) :
    alu e8 e9 sel first second = none ↔ sel ∉ functionSelectors :=
  Option.map_eq_none_iff.trans (aluFunction_eq_none_iff sel)

/-- Settles O18: the ALU answers nothing exactly where its selector has no function. -/
theorem aluHasNoFunctionForReservedSelectors : Obligations.AluHasNoFunctionForReservedSelectors :=
  fun e8 e9 sel first second => (alu_eq_none_iff e8 e9 sel first second).trans (not_mem_functionSelectors_iff sel)

theorem result_eq_none_iff (s : State) : s.result = none ↔ s.selector ∉ functionSelectors :=
  alu_eq_none_iff _ _ _ _ _

/-- In a cycle the selector is the opcode's high nibble, or 0 with gate 6 cut: the raw wire 6 is always true (the spec's
decision D6). -/
theorem selector_decoded (op ah al : Byte) (s : State) :
    (s.latchWord op ah al).decodePhase.selector = if s.gates.g6 then op4 op else 0 := by
  simp [State.selector]

theorem result_decoded_eq_none_iff (op ah al : Byte) (s : State) :
    (s.latchWord op ah al).decodePhase.result = none ↔
      s.gates.g6 = true ∧ 4 ≤ op.toNat / 16 ∧ op.toNat / 16 ≤ 14 := by
  rw [result_eq_none_iff, not_mem_functionSelectors_iff, selector_decoded]
  cases s.gates.g6 with
  | false => simp
  | true => simp [op4_toNat]

/-! ### signAdjust (R141, R152, R281) -/

/-- Settles O13: gate 8 alone decides under the flag invariant, and no flag is effective with both gates cut. -/
theorem signAdjustUnderTheFlagInvariant : Obligations.SignAdjustUnderTheFlagInvariant := by
  refine ⟨fun s hflag => ?_, fun s x h8 h9 => ?_⟩
  · exact (signAdjust_flags s).trans (signAdjusted_of_flagInv hflag)
  · simp [signAdjust_eq, h8, h9]

/-! ### DECODE (R123 to R132) -/

theorem op4_eq_rowF_iff (op : Byte) : op4 op = 0xF ↔ op.toNat / 16 = 15 := op4_eq_iff op 0xF

theorem fieldP_eq (op : Byte) : fieldP op = if op.toNat / 16 = 15 then 4 else op.toNat % 4 := by
  simp only [fieldP, op4_eq_rowF_iff, BitVec.extractLsb'_toNat, Nat.shiftRight_zero, Nat.reducePow]

theorem fieldI_eq (op : Byte) : fieldI op = if op.toNat / 16 = 15 then 0 else op.toNat / 4 % 2 := by
  simp only [fieldI, op4_eq_rowF_iff, BitVec.extractLsb'_toNat, Nat.shiftRight_eq_div_pow, Nat.reducePow]

/-- Settles O16: the wires by the two fields of the opcode; the latched flags reach wire 7 alone. -/
theorem decoderWires : Obligations.DecoderWires := by
  intro s p i d
  have hp : fieldP s.op = p := fieldP_eq s.op
  have hi : fieldI s.op = i := fieldI_eq s.op
  rw [← hp, ← hi]
  refine ⟨rfl, rfl, rfl, rfl, rfl, rfl, ?_, rfl, rfl, rfl, rfl⟩
  rw [decodePhase_wires, decodeWires_w7]
  simp [or_assoc]

/-- `E(0)` in CHECK-RUN: HLT's opcode and gate 0 are all that makes it false (R124, R133). -/
theorem eff_zero_decoded_eq_false_iff (op ah al : Byte) (s : State) :
    (s.latchWord op ah al).decodePhase.eff 0 = false ↔ op = 0xFF ∨ s.gates.g0 = false := by
  simp [-Bool.not_eq_true, imp_iff_not_or]

/-! ### The cycle from CHECK-RUN on (R120, R133, R148) -/

theorem checkRunPhase_of_eff_zero {c : State} (h : c.eff 0 = true) : c.checkRunPhase = { c with phase := .execute } :=
  if_pos h

theorem checkRunPhase_of_not_eff_zero {c : State} (h : c.eff 0 = false) : c.checkRunPhase = c.enterHalt :=
  if_neg (Bool.eq_false_iff.1 h)

theorem checkThenExecute_of_eff_zero {c : State} (h : c.eff 0 = true) :
    c.checkThenExecute = ({ c with phase := .execute } : State).executePhase := by
  rw [State.checkThenExecute, checkRunPhase_of_eff_zero h]

theorem checkThenExecute_of_not_eff_zero {c : State} (h : c.eff 0 = false) : c.checkThenExecute = c.enterHalt := by
  rw [State.checkThenExecute, checkRunPhase_of_not_eff_zero h]
  rfl

/-- EXECUTE ends in FAULT or in FETCH, as its selector has no function or has one. -/
theorem executePhase_phase (e : State) :
    (e.executePhase.phase = .fault ∧ e.selector ∉ functionSelectors) ∨
    (e.executePhase.phase = .fetch ∧ e.selector ∈ functionSelectors) := by
  unfold State.executePhase
  split
  · next r hr =>
    have hsel : e.selector ∈ functionSelectors := by
      by_contra hno
      exact Option.some_ne_none r (hr.symm.trans ((result_eq_none_iff e).2 hno))
    exact .inr ⟨commit_phase r e, hsel⟩
  · next hr => exact .inl ⟨rfl, (result_eq_none_iff e).1 hr⟩

theorem checkThenExecute_phase_eq_halt_iff (c : State) : c.checkThenExecute.phase = .halt ↔ c.eff 0 = false := by
  cases h : c.eff 0 with
  | false => rw [checkThenExecute_of_not_eff_zero h]; exact iff_of_true rfl rfl
  | true =>
    rw [checkThenExecute_of_eff_zero h]
    obtain ⟨hphase, -⟩ | ⟨hphase, -⟩ := executePhase_phase { c with phase := .execute } <;> simp [hphase]

/-- Settles O30: CHECK-RUN alone leads to HALT, by `E(0)` as DECODE left it, and it writes nothing but the phase. -/
theorem haltExactlyOnHltOrGateZero : Obligations.HaltExactlyOnHltOrGateZero := by
  intro i s c
  have hphase : c.checkThenExecute.phase = .halt ↔ c.eff 0 = false := checkThenExecute_phase_eq_halt_iff c
  exact ⟨c.checkThenExecute, exec_eq_runWord i s, checkThenExecute_of_not_eff_zero, checkThenExecute_of_eff_zero,
    hphase.trans (eff_zero_decoded_eq_false_iff ..), fun h => checkThenExecute_of_not_eff_zero (hphase.1 h)⟩

/-! ### A step from FETCH is one cycle (R120, R121, R150) -/

theorem decode_fetchBytes (s : State) : decode s.fetchBytes = .ok (s.fetchInstr, []) := rfl

/-- Settles O6: the bytes at IP decode to the instruction the step runs. -/
theorem stepRunsTheDecodedInstruction : Obligations.StepRunsTheDecodedInstruction := by
  intro s i hfetch hdecode _
  have hi : s.fetchInstr = i := congrArg Prod.fst (Except.ok.inj ((decode_fetchBytes s).symm.trans hdecode))
  rw [step_of_fetch hfetch, hi]

theorem step_of_fetch_eq_cycle {s : State} (h : s.phase = .fetch) :
    step s = .next s.fetchPhase.decodePhase.checkThenExecute :=
  (step_of_fetch h).trans (exec_decodeWord _ _ _ s)

theorem step_of_fetch_endsIn {s t : State} (hfetch : s.phase = .fetch) (h : step s = .next t) :
    s.fetchPhase.decodePhase.EndsIn t := by
  rw [step_of_fetch_eq_cycle hfetch] at h
  cases h
  exact endsIn_checkThenExecute _

/-- Settles O8: a step answers, and it ends a cycle. -/
theorem everyCycleCompletes : Obligations.EveryCycleCompletes := by
  intro s hs
  obtain ⟨t, ht⟩ := exists_step_of_not_terminal hs
  exact ⟨t, ht, atBoundary_of_step ht⟩

/-- Settles O9: the phases up to CHECK-RUN are fixed, `E(0)` decides whether EXECUTE follows, and its selector how it ends. -/
theorem stepIsThePhaseMachine : Obligations.StepIsThePhaseMachine := by
  intro s hfetch
  have hstep := step_of_fetch_eq_cycle hfetch
  have hd : s.phaseStep = some s.fetchPhase := by unfold State.phaseStep; rw [hfetch]
  refine ⟨s.fetchPhase, s.fetchPhase.decodePhase, s.fetchPhase.decodePhase.checkRunPhase, hd, rfl, rfl, rfl, rfl, ?_⟩
  generalize s.fetchPhase.decodePhase = c at hstep
  cases hrun : c.eff 0 with
  | false =>
    rw [checkThenExecute_of_not_eff_zero hrun] at hstep
    rw [checkRunPhase_of_not_eff_zero hrun]
    exact .inl ⟨rfl, rfl, hstep⟩
  | true =>
    rw [checkThenExecute_of_eff_zero hrun] at hstep
    rw [checkRunPhase_of_eff_zero hrun]
    exact .inr ⟨rfl, rfl, _, rfl, hstep, executePhase_phase _⟩

/-! ### The index (R139) -/

/-- Settles O41: with gates 2 and 3 enabled a completed cycle clears SI unless the field `p` is 2, which row F never has. -/
theorem indexIsUsedUp : Obligations.IndexIsUsedUp := by
  intro s t hfetch hgates hstep hphase hop
  cases step_of_fetch_endsIn hfetch hstep with
  | halt => exact Phase.noConfusion hphase
  | fault => exact Phase.noConfusion hphase
  | commit r =>
    have hp : fieldP (memRead1 s.mem s.ip.toNat) ≠ 2 := by
      rw [fieldP_eq]
      split <;> omega
    simp [State.fetchPhase, hgates, Config.allEnabled, hp]

/-! ### The last cycle of a run (R133, R302, R367, R368) -/

/-- Settles O47: a halt and a fault write nothing the host can read, so the byte at IP is still the opcode that ended the
run. -/
theorem lastCycleIsInvisible : Obligations.LastCycleIsInvisible := by
  intro s t hfetch hstep hterm
  cases step_of_fetch_endsIn hfetch hstep with
  | halt hrun => exact ⟨rfl, Phase.noConfusion, fun _ => (eff_zero_decoded_eq_false_iff _ _ _ s).1 hrun⟩
  | fault hnone =>
    obtain ⟨-, hrow⟩ := (result_decoded_eq_none_iff _ _ _ s).1 hnone
    exact ⟨rfl, fun _ => hrow, Phase.noConfusion⟩
  | commit r => simp [State.Terminal] at hterm

/-! ### HLT (R240) -/

/-- Row F has the constants for both fields, and 0xFF is none of the four jumps (R93, R131). -/
theorem decodeWires_hlt (e8 e9 : Bool) (w : Wires) :
    decodeWires 0xFF e8 e9 w =
      { w with
        w0 := false, w1 := false, w2 := true, w3 := true, w4 := false, w5 := false, w6 := true, w7 := false } := by
  simp [decodeWires, fieldP_eq, fieldI_eq]

theorem runWord_hlt (ah al : Byte) (s : State) :
    s.runWord 0xFF ah al =
      { decoded s 0xFF ah al false false true true false false true false with phase := .halt } :=
  calc s.runWord 0xFF ah al
    _ = (s.latchWord 0xFF ah al).decodePhase.enterHalt :=
      checkThenExecute_of_not_eff_zero ((eff_zero_decoded_eq_false_iff 0xFF ah al s).2 (.inl rfl))
    _ = _ := by rw [latchWord_decodePhase, decodeWires_hlt]; rfl

theorem eq_hlt_of_opcode {i : Instr} (h : i.opcode = 0xFF) : i = .hlt i.highByte i.lowByte := by
  have hi := decodeWord_opcode i
  rw [h] at hi
  exact hi.symm

/-- Settles O25: only a cut gate 0 could halt another instruction, and 0xFF is the opcode of HLT alone. -/
theorem hltHalts : Obligations.HltHalts := by
  refine ⟨fun s ah al => ⟨rfl, congrArg _ (runWord_hlt ah al s)⟩, fun s hfetch hop => ?_,
    fun i s t hgates h hhalt => ?_⟩
  · refine ⟨memRead1 s.mem (s.ip.toNat + 1), memRead1 s.mem (s.ip.toNat + 2), ?_⟩
    rw [step_of_fetch_eq_cycle hfetch, State.fetchPhase, hop]
    exact congrArg _ (runWord_hlt _ _ s)
  · obtain ⟨u, hu, -, -, hiff, -⟩ := haltExactlyOnHltOrGateZero i s
    obtain rfl : t = u := Host.Outcome.next.inj (h.symm.trans hu)
    obtain hop | hcut := hiff.1 hhalt
    · exact ⟨_, _, eq_hlt_of_opcode hop⟩
    · rw [hgates] at hcut
      cases hcut

/-! ### The reserved opcodes (R260, R301, R302) -/

theorem toNat_nibblesOpcode (row low : BitVec 4) : (nibblesOpcode row low).toNat = 16 * row.toNat + low.toNat := by
  rw [nibblesOpcode, BitVec.toNat_append, ← Nat.shiftLeft_add_eq_or_of_lt low.isLt, Nat.shiftLeft_eq]
  omega

theorem nibblesOpcode_eq_ofNat (row low : BitVec 4) :
    nibblesOpcode row low = BitVec.ofNat 8 (16 * row.toNat + low.toNat) := by
  rw [← toNat_nibblesOpcode, BitVec.ofNat_toNat, BitVec.setWidth_eq]

/-- Bit 2 of the opcode, as the spec's table of the reserved opcodes writes it (R153). -/
theorem getLsbD_two_nibblesOpcode (row low : BitVec 4) :
    (nibblesOpcode row low).getLsbD 2 = decide (low.toNat / 4 % 2 = 1) := by
  rw [BitVec.getLsbD, Nat.testBit_eq_decide_div_mod_eq, toNat_nibblesOpcode]
  congr 2
  omega

/-- The wires of a reserved opcode are those of any opcode outside row F, with the two fields in its low nibble. -/
theorem runWord_reserved {s : State} (hg0 : s.gates.g0 = true) (hg6 : s.gates.g6 = true) {row : BitVec 4}
    (hrow : 4 ≤ row.toNat ∧ row.toNat ≤ 14) (low : BitVec 4) (ah al : Byte) :
    s.runWord (nibblesOpcode row low) ah al = faulted s row.toNat low ah al := by
  have hop := toNat_nibblesOpcode row low
  have hlow := low.isLt
  have hlt : (nibblesOpcode row low).toNat < 0xF0 := by omega
  have hFF : nibblesOpcode row low ≠ 0xFF#8 := ne_of_toNat_lt (hlt.trans (by decide))
  have hp : (nibblesOpcode row low).toNat % 4 = low.toNat % 4 := by omega
  have hnone : (s.latchWord (nibblesOpcode row low) ah al).decodePhase.result = none :=
    (result_decoded_eq_none_iff _ ah al s).2 ⟨hg6, by omega⟩
  rw [runWord_eq, hnone, decodeWires_of_lt hlt, hp, getLsbD_two_nibblesOpcode, faulted, ← nibblesOpcode_eq_ofNat]
  simp [hFF, hg0, decoded]

/-- Settles O27: one cycle for all eleven rows. -/
theorem reservedOpcodesEnterFault : Obligations.ReservedOpcodesEnterFault := by
  intro s low ah al hg0 hg6
  have h (row : BitVec 4) (hrow : 4 ≤ row.toNat ∧ row.toNat ≤ 14) :
      Host.Outcome.next (s.runWord (nibblesOpcode row low) ah al) =
        (.next (faulted s row.toNat low ah al) : Host.Outcome State Fault Refusal) :=
    congrArg _ (runWord_reserved hg0 hg6 hrow low ah al)
  exact ⟨h 0x4 (by decide), h 0x5 (by decide), h 0x6 (by decide), h 0x7 (by decide), h 0x8 (by decide),
    h 0x9 (by decide), h 0xA (by decide), h 0xB (by decide), h 0xC (by decide), h 0xD (by decide), h 0xE (by decide)⟩

end Sys2Proof.Machine
end

section
/-! PROOFS. The family 41_sgn.md: the whole cycle of an instruction of any of the four destinations, and from it the next
state of each of the eight SGN instructions. -/

namespace Sys2Proof.Machine

open Sys2Proof.Claims

/-! ### The opcode bytes of a row (R92, R99) -/

/-- The fields `row`, `b3` and `i p1 p0`, each at its own weight. -/
theorem toNat_rowOpcode (row : BitVec 4) (b3 : Bool) (form : BitVec 3) :
    (rowOpcode row b3 form).toNat = 16 * row.toNat + form.toNat + if b3 then 8 else 0 := by
  have hform := form.isLt
  have hlow : (BitVec.ofBool b3 ++ form : BitVec 4).toNat = form.toNat + if b3 then 8 else 0 := by
    rw [BitVec.toNat_append, ← Nat.shiftLeft_add_eq_or_of_lt hform, Nat.shiftLeft_eq]
    cases b3 with
    | false => simp
    | true => simp [Nat.add_comm]
  calc (rowOpcode row b3 form).toNat
    _ = 16 * row.toNat + (BitVec.ofBool b3 ++ form : BitVec 4).toNat := toNat_nibblesOpcode row _
    _ = _ := by rw [hlow, Nat.add_assoc]

theorem toNat_rowOpcode_lt (row : BitVec 4) (b3 : Bool) (form : BitVec 3) :
    (rowOpcode row b3 form).toNat < 16 * (row.toNat + 1) := by
  have hform := form.isLt
  rw [toNat_rowOpcode]
  split <;> omega

theorem rowOpcode_eq_rowByte (row : BitVec 4) (b3 : Bool) (form : BitVec 3) :
    rowOpcode row b3 form = rowByte (16 * row.toNat + form.toNat) b3 := by
  rw [rowByte, ← toNat_rowOpcode, BitVec.ofNat_toNat, BitVec.setWidth_eq]

theorem toNat_rowOpcode_mod_four (row : BitVec 4) (b3 : Bool) (form : BitVec 3) :
    (rowOpcode row b3 form).toNat % 4 = form.toNat % 4 := by
  rw [toNat_rowOpcode]
  split <;> omega

theorem getLsbD_two_rowOpcode (row : BitVec 4) (b3 : Bool) (form : BitVec 3) :
    (rowOpcode row b3 form).getLsbD 2 = form.getLsbD 2 := by
  rw [BitVec.getLsbD, BitVec.getLsbD, Nat.testBit_eq_decide_div_mod_eq, Nat.testBit_eq_decide_div_mod_eq,
    toNat_rowOpcode]
  congr 2
  split <;> omega

/-! ### The four destinations (R97, R137 to R140) -/

/-- The next state of a completed cycle by the destination field `p` of its opcode (R97). -/
def toDestination (p : Nat) : State → Byte → Byte → Byte → Bool → Word → State :=
  match p with
  | 0 => toMemory
  | 1 => toAx
  | 2 => toSi
  | _ => toNothing

section Destination

variable {op ah al : Byte} {s : State} {r : Word} (hg0 : s.gates.g0 = true) (hlt : op.toNat < 0xF0)
  (hr : (s.latchWord op ah al).decodePhase.result = some r)
include hg0 hlt hr

/-- The cycle on an opcode outside row F, once the ALU has answered `r`: a committed result, with wire 7 false. -/
theorem runWord_eq_commit :
    s.runWord op ah al =
      (decoded s op ah al true (decide (op.toNat % 4 = 1)) true (decide (op.toNat % 4 ≠ 2)) (op.getLsbD 2)
        (decide (op.toNat % 4 = 0)) true false).commit r := by
  rw [State.runWord, checkThenExecute_eq, hr]
  simp [commit_eq, latchWord_decodePhase, decodeWires_of_lt hlt, hg0, decoded]

theorem runWord_eq_toAx (hp : op.toNat % 4 = 1) : s.runWord op ah al = toAx s op ah al (op.getLsbD 2) r := by
  rw [runWord_eq_commit hg0 hlt hr]
  simp [commit_eq, hp, toAx, decoded, siCleared, positiveFlag_eq, zeroFlag_eq]

theorem runWord_eq_toSi (hp : op.toNat % 4 = 2) : s.runWord op ah al = toSi s op ah al (op.getLsbD 2) r := by
  rw [runWord_eq_commit hg0 hlt hr]
  simp [commit_eq, hp, toSi, decoded]

theorem runWord_eq_toNothing (hp : op.toNat % 4 = 3) :
    s.runWord op ah al = toNothing s op ah al (op.getLsbD 2) r := by
  rw [runWord_eq_commit hg0 hlt hr]
  simp [commit_eq, hp, toNothing, decoded, siCleared]

theorem runWord_eq_toDestination :
    s.runWord op ah al = toDestination (op.toNat % 4) s op ah al (op.getLsbD 2) r := by
  have hlt4 : op.toNat % 4 < 4 := Nat.mod_lt _ (by decide)
  match hp : op.toNat % 4, hlt4 with
  | 0, _ => exact runWord_eq_toMemory hg0 hlt hp hr
  | 1, _ => exact runWord_eq_toAx hg0 hlt hr hp
  | 2, _ => exact runWord_eq_toSi hg0 hlt hr hp
  | 3, _ => exact runWord_eq_toNothing hg0 hlt hr hp

end Destination

/-- The whole next state of every instruction the ALU has a function for outside row F. -/
theorem exec_eq_toDestination {i : Instr} {s : State} (hg0 : s.gates.g0 = true) (h : HasStoredValue i s) :
    exec i s =
      .next (toDestination (i.opcode.toNat % 4) s i.opcode i.highByte i.lowByte (i.opcode.getLsbD 2)
        (storedValue s i)) := by
  rw [exec_eq_runWord, runWord_eq_toDestination hg0 h.opcode_lt (result_eq_storedValue h)]

/-- The same in rows 0 to 3, by the form `i p1 p0` and bit 3 of the opcode (R97, R99). -/
theorem exec_eq_toDestination_of_row {i : Instr} {s : State} (hg0 : s.gates.g0 = true) {row : BitVec 4}
    (hrow : row.toNat < 4) {b3 : Bool} {form : BitVec 3} (hop : i.opcode = rowOpcode row b3 form) :
    exec i s =
      .next (toDestination (form.toNat % 4) s (rowByte (16 * row.toNat + form.toNat) b3) i.highByte i.lowByte
        (form.getLsbD 2) (storedValue s i)) := by
  have hlt : i.opcode.toNat < 0x40 := by
    have := toNat_rowOpcode_lt row b3 form
    rw [hop]
    omega
  rw [exec_eq_toDestination hg0 (.inl hlt), hop, toNat_rowOpcode_mod_four, getLsbD_two_rowOpcode, rowOpcode_eq_rowByte]

/-! ### The SGN family (R200 to R207) -/

/-- Row 0 is `signAdjust(AX)` whatever gate 6 is (R142, R143). -/
theorem storedValue_of_row_zero {i : Instr} (h : i.opcode.toNat < 0x10) (s : State) :
    storedValue s i = signAdjusted s := by
  simp [storedValue, h]

/-- The whole next state of an instruction of row 0, by its form and bit 3. -/
theorem exec_of_row_zero {i : Instr} {s : State} (hg0 : s.gates.g0 = true) {b3 : Bool} {form : BitVec 3}
    (hop : i.opcode = rowOpcode 0 b3 form) :
    exec i s =
      .next (toDestination (form.toNat % 4) s (rowByte (16 * (0 : BitVec 4).toNat + form.toNat) b3) i.highByte
        i.lowByte (form.getLsbD 2) (signAdjusted s)) := by
  have hrow : i.opcode.toNat < 0x10 := hop ▸ toNat_rowOpcode_lt 0 b3 form
  rw [exec_eq_toDestination_of_row hg0 (by decide) hop, storedValue_of_row_zero hrow]

/-- Settles O21: the eight forms of row 0, each by its own bits `i p1 p0`. -/
theorem sgnFamilyResults : Obligations.SgnFamilyResults := by
  intro s b3 ah al hg0 m im
  have h {i : Instr} (form : BitVec 3) (hop : i.opcode = rowOpcode 0 b3 form) := exec_of_row_zero hg0 hop
  exact ⟨h 0 rfl, h 1 rfl, h 2 rfl, h 3 rfl, h 4 rfl, h 5 rfl, h 6 rfl, h 7 rfl⟩

end Sys2Proof.Machine
end

section
/-! PROOFS. The family 42_mov.md: the next state of each of the eight MOV instructions. -/

namespace Sys2Proof.Machine

open Sys2Proof.Claims

/-- The first byte of a row; `toNat_rowOpcode_lt` bounds it from above. -/
theorem le_toNat_rowOpcode (row : BitVec 4) (b3 : Bool) (form : BitVec 3) :
    16 * row.toNat ≤ (rowOpcode row b3 form).toNat := by
  rw [toNat_rowOpcode, Nat.add_assoc]
  exact Nat.le_add_right _ _

/-- Row 1 is the operand that bit 2 of the opcode chooses, or `signAdjust(AX)` with gate 6 cut (R142, R144). -/
theorem storedValue_of_row_one {i : Instr} (hge : 0x10 ≤ i.opcode.toNat) (hlt : i.opcode.toNat < 0x20) (s : State) :
    storedValue s i =
      if s.gates.g6 then
        if i.opcode.getLsbD 2 then immediateOperand s i.highByte i.lowByte
        else memoryOperand s i.highByte i.lowByte
      else signAdjusted s := by
  rw [storedValue, if_neg (Nat.not_lt.2 hge), if_pos hlt]

/-- The whole next state of an instruction of row 1, by its form and bit 3. -/
theorem exec_of_row_one {i : Instr} {s : State} (hg0 : s.gates.g0 = true) {b3 : Bool} {form : BitVec 3}
    (hop : i.opcode = rowOpcode 1 b3 form) :
    exec i s =
      .next (toDestination (form.toNat % 4) s (rowByte (16 * (1 : BitVec 4).toNat + form.toNat) b3) i.highByte
        i.lowByte (form.getLsbD 2)
        (if s.gates.g6 then
          if form.getLsbD 2 then immediateOperand s i.highByte i.lowByte else memoryOperand s i.highByte i.lowByte
        else signAdjusted s)) := by
  have hge : 0x10 ≤ i.opcode.toNat := hop ▸ le_toNat_rowOpcode 1 b3 form
  have hlt : i.opcode.toNat < 0x20 := hop ▸ toNat_rowOpcode_lt 1 b3 form
  rw [exec_eq_toDestination_of_row hg0 (by decide) hop, storedValue_of_row_one hge hlt, hop, getLsbD_two_rowOpcode]

/-- Settles O22: the eight forms of row 1, each by its own bits `i p1 p0`. -/
theorem movFamilyResults : Obligations.MovFamilyResults := by
  intro s b3 ah al hg0 f m im
  have h {i : Instr} (form : BitVec 3) (hop : i.opcode = rowOpcode 1 b3 form) := exec_of_row_one hg0 hop
  exact ⟨h 0 rfl, h 1 rfl, h 2 rfl, h 3 rfl, h 4 rfl, h 5 rfl, h 6 rfl, h 7 rfl⟩

end Sys2Proof.Machine
end

section
/-! PROOFS. The family 43_add.md: the next state of an instruction by its row's function of the second operand, and from it
the next state of each of the eight ADD instructions. -/

namespace Sys2Proof.Machine

open Sys2Proof.Claims

/-! ### A row's function of the second operand (R95, R135, R142) -/

/-- The second operand by the bit `i` of the opcode, as `Claims.storedValue` chooses it. -/
def secondOperand (s : State) (immediate : Bool) (ah al : Byte) : Word :=
  if immediate then immediateOperand s ah al else memoryOperand s ah al

/-- An instruction whose stored value is `f` of its second operand, or `signAdjust(AX)` with gate 6 cut, by its form and
bit 3. -/
theorem exec_of_row_function {i : Instr} {s : State} (hg0 : s.gates.g0 = true) {row : BitVec 4} (hrow : row.toNat < 4)
    {b3 : Bool} {form : BitVec 3} (hop : i.opcode = rowOpcode row b3 form) {f : Word → Word}
    (hvalue : storedValue s i =
      if s.gates.g6 then f (secondOperand s (i.opcode.getLsbD 2) i.highByte i.lowByte) else signAdjusted s) :
    exec i s =
      .next (toDestination (form.toNat % 4) s (rowByte (16 * row.toNat + form.toNat) b3) i.highByte i.lowByte
        (form.getLsbD 2)
        (if s.gates.g6 then f (secondOperand s (form.getLsbD 2) i.highByte i.lowByte) else signAdjusted s)) := by
  rw [exec_eq_toDestination_of_row hg0 hrow hop, hvalue, hop, getLsbD_two_rowOpcode]

/-! ### The ADD family (R220 to R227) -/

/-- Row 2 is `signAdjust(AX)` plus the operand, or `signAdjust(AX)` with gate 6 cut (R142, R145). -/
theorem storedValue_of_row_two {i : Instr} (hge : 0x20 ≤ i.opcode.toNat) (hlt : i.opcode.toNat < 0x30) (s : State) :
    storedValue s i =
      if s.gates.g6 then signAdjusted s + secondOperand s (i.opcode.getLsbD 2) i.highByte i.lowByte
      else signAdjusted s := by
  have h1 : ¬ i.opcode.toNat < 0x10 := by omega
  rw [storedValue, if_neg h1, if_neg (Nat.not_lt.2 hge), if_pos hlt, secondOperand]

/-- The whole next state of an instruction of row 2, by its form and bit 3. -/
theorem exec_of_row_two {i : Instr} {s : State} (hg0 : s.gates.g0 = true) {b3 : Bool} {form : BitVec 3}
    (hop : i.opcode = rowOpcode 2 b3 form) :
    exec i s =
      .next (toDestination (form.toNat % 4) s (rowByte (16 * (2 : BitVec 4).toNat + form.toNat) b3) i.highByte
        i.lowByte (form.getLsbD 2)
        (if s.gates.g6 then signAdjusted s + secondOperand s (form.getLsbD 2) i.highByte i.lowByte
        else signAdjusted s)) := by
  have hge : 0x20 ≤ i.opcode.toNat := hop ▸ le_toNat_rowOpcode 2 b3 form
  have hlt : i.opcode.toNat < 0x30 := hop ▸ toNat_rowOpcode_lt 2 b3 form
  exact exec_of_row_function hg0 (by decide) hop (storedValue_of_row_two hge hlt s)

/-- Settles O23: the eight forms of row 2, each by its own bits `i p1 p0`. -/
theorem addFamilyResults : Obligations.AddFamilyResults := by
  intro s b3 ah al hg0 f m im
  have h {i : Instr} (form : BitVec 3) (hop : i.opcode = rowOpcode 2 b3 form) := exec_of_row_two hg0 hop
  exact ⟨h 0 rfl, h 1 rfl, h 2 rfl, h 3 rfl, h 4 rfl, h 5 rfl, h 6 rfl, h 7 rfl⟩

end Sys2Proof.Machine
end

section
/-! PROOFS. The family 44_sub.md: the next state of each of the eight SUB instructions. -/

namespace Sys2Proof.Machine

open Sys2Proof.Claims

/-! ### The SUB family (R230 to R237) -/

/-- Row 3 is `signAdjust(AX)` minus the operand, or `signAdjust(AX)` with gate 6 cut (R142, R146). `Claims.storedValue` has
the same function in every row above it. -/
theorem storedValue_of_row_three_le {i : Instr} (hge : 0x30 ≤ i.opcode.toNat) (s : State) :
    storedValue s i =
      if s.gates.g6 then signAdjusted s - secondOperand s (i.opcode.getLsbD 2) i.highByte i.lowByte
      else signAdjusted s := by
  have h1 : ¬ i.opcode.toNat < 0x10 := by omega
  have h2 : ¬ i.opcode.toNat < 0x20 := by omega
  rw [storedValue, if_neg h1, if_neg h2, if_neg (Nat.not_lt.2 hge), secondOperand]

/-- The whole next state of an instruction of row 3, by its form and bit 3. -/
theorem exec_of_row_three {i : Instr} {s : State} (hg0 : s.gates.g0 = true) {b3 : Bool} {form : BitVec 3}
    (hop : i.opcode = rowOpcode 3 b3 form) :
    exec i s =
      .next (toDestination (form.toNat % 4) s (rowByte (16 * (3 : BitVec 4).toNat + form.toNat) b3) i.highByte
        i.lowByte (form.getLsbD 2)
        (if s.gates.g6 then signAdjusted s - secondOperand s (form.getLsbD 2) i.highByte i.lowByte
        else signAdjusted s)) := by
  have hge : 0x30 ≤ i.opcode.toNat := hop ▸ le_toNat_rowOpcode 3 b3 form
  exact exec_of_row_function hg0 (by decide) hop (storedValue_of_row_three_le hge s)

/-- Settles O24: the eight forms of row 3, each by its own bits `i p1 p0`. -/
theorem subFamilyResults : Obligations.SubFamilyResults := by
  intro s b3 ah al hg0 f m im
  have h {i : Instr} (form : BitVec 3) (hop : i.opcode = rowOpcode 3 b3 form) := exec_of_row_three hg0 hop
  exact ⟨h 0 rfl, h 1 rfl, h 2 rfl, h 3 rfl, h 4 rfl, h 5 rfl, h 6 rfl, h 7 rfl⟩

end Sys2Proof.Machine
end

section
/-! PROOFS. The family 45_control.md: the whole cycle of an opcode of row F other than HLT, the cycle of any instruction
with gate 0 cut, and from these the next states of the jumps and of the NOPF opcodes. -/

namespace Sys2Proof.Machine

open Sys2Proof.Claims

/-! ### DECODE of an opcode byte of row F (R93, R123 to R131) -/

/-- The jump condition of an opcode by the effective flags: JMP and JMPB always, JZ and JP by their flag (R241 to R244). -/
def jumpCondition (op : Byte) (e8 e9 : Bool) : Bool :=
  if op = 0xFE ∨ op = 0xF4 then true else if op = 0xF0 then e9 else if op = 0xF1 then e8 else false

theorem decodeWires_w7_eq_jumpCondition (op : Byte) (e8 e9 : Bool) (w : Wires) :
    (decodeWires op e8 e9 w).w7 = jumpCondition op e8 e9 := by
  rw [decodeWires_w7, jumpCondition]
  split_ifs with halways hzero hpositive
  · obtain rfl | rfl := halways <;> rfl
  · subst hzero
    simp
  · subst hpositive
    simp
  · obtain ⟨hjmp, hjmpb⟩ := not_or.1 halways
    simp only [hjmp, hzero, hjmpb, hpositive, decide_false, Bool.false_and, Bool.or_false]

theorem op4_of_rowF {op : Byte} (h : 0xF0 ≤ op.toNat) : op4 op = 0xF := by
  have := op.isLt
  exact (op4_eq_rowF_iff op).2 (by omega)

theorem fieldI_of_rowF {op : Byte} (h : 0xF0 ≤ op.toNat) : fieldI op = 0 := if_pos (op4_of_rowF h)

/-- The raw wires of row F but HLT: the fields have their sentinels, and wire 7 alone tells the opcodes apart. -/
theorem decodeWires_of_rowF {op : Byte} (hrow : 0xF0 ≤ op.toNat) (hne : op ≠ 0xFF#8) (e8 e9 : Bool) (w : Wires) :
    decodeWires op e8 e9 w =
      { w with
        w0 := true, w1 := false, w2 := true, w3 := true, w4 := false, w5 := false, w6 := true
        w7 := jumpCondition op e8 e9 } := by
  rw [← decodeWires_w7_eq_jumpCondition op e8 e9 w]
  simp [decodeWires, fieldP_of_rowF hrow, fieldI_of_rowF hrow, hne]

/-! ### The cycle of row F but HLT with gate 0 enabled (R246) -/

/-- The jump condition of an opcode in `s`. -/
def State.jumps (s : State) (op : Byte) : Bool :=
  jumpCondition op (s.wires.w8 && s.gates.g8) (s.wires.w9 && s.gates.g9)

/-- EXECUTE steps 1 to 3: the selector is 0xF, whose function is zero, or 0 with gate 6 cut (R142, R143, R147). -/
theorem result_decoded_of_rowF {op : Byte} (hrow : 0xF0 ≤ op.toNat) (ah al : Byte) (s : State) :
    (s.latchWord op ah al).decodePhase.result = some (if s.gates.g6 then 0 else signAdjusted s) := by
  rw [result_decoded, op4_of_rowF hrow]
  cases s.gates.g6 with
  | false => exact congrArg some (signAdjust_flags s)
  | true => exact alu_fifteen ..

theorem runWord_of_rowF {op : Byte} {s : State} (hg0 : s.gates.g0 = true) (hrow : 0xF0 ≤ op.toNat) (hne : op ≠ 0xFF#8)
    (ah al : Byte) : s.runWord op ah al = rowF s op ah al (s.jumps op) := by
  rw [runWord_eq, result_decoded_of_rowF hrow, decodeWires_of_rowF hrow hne]
  simp [hg0, hne, fieldP_of_rowF hrow, rowF, decoded, siCleared, State.jumps]

/-! ### Any instruction with gate 0 cut (R262) -/

theorem exec_of_gate0_cut {s : State} (hg0 : s.gates.g0 = false) (i : Instr) : exec i s = .next (halted i s) := by
  have hrun : (s.latchWord i.opcode i.highByte i.lowByte).decodePhase.eff 0 = false :=
    (eff_zero_decoded_eq_false_iff ..).2 (.inr hg0)
  rw [exec_eq_runWord, State.runWord, checkThenExecute_of_not_eff_zero hrun]
  rfl

/-- Settles O26: one cycle for all fifteen opcodes, each with its own jump condition; with gate 0 cut every
instruction halts. -/
theorem rowFResults : Obligations.RowFResults := by
  refine fun s ah al => ⟨fun hg0 => ?_, fun hg0 i _ => exec_of_gate0_cut hg0 i⟩
  have h (op : Byte) (hop : 0xF0 ≤ op.toNat ∧ op ≠ 0xFF#8) :
      Host.Outcome.next (s.runWord op ah al) =
        (.next (rowF s op ah al (s.jumps op)) : Host.Outcome State Fault Refusal) :=
    congrArg _ (runWord_of_rowF hg0 hop.1 hop.2 ah al)
  exact ⟨h 0xFE (by decide), h 0xF4 (by decide), h 0xF0 (by decide), h 0xF1 (by decide), h 0xF2 (by decide),
    h 0xF3 (by decide), h 0xF5 (by decide), h 0xF6 (by decide), h 0xF7 (by decide), h 0xF8 (by decide),
    h 0xF9 (by decide), h 0xFA (by decide), h 0xFB (by decide), h 0xFC (by decide), h 0xFD (by decide)⟩

/-! ### JMPB, the second encoding of JMP (R242) -/

theorem decodeWires_jmpb (e8 e9 : Bool) (w : Wires) : decodeWires 0xF4 e8 e9 w = decodeWires 0xFE e8 e9 w := by
  rw [decodeWires_of_rowF (by decide) (by decide), decodeWires_of_rowF (by decide) (by decide)]
  rfl

theorem halted_jmpb (ah al : Byte) (s : State) :
    halted (.jmpb ah al) s = { halted (.jmp ah al) s with op := 0xF4 } := by
  simp only [halted, Instr.opcode, Instr.highByte, Instr.lowByte, decodeWires_jmpb]

/-- Settles O39: with gate 0 enabled both have the next state of a taken jump, with gate 0 cut both halt. -/
theorem jmpbIsJmp : Obligations.JmpbIsJmp := by
  intro s ah al
  cases hg0 : s.gates.g0 with
  | true =>
    obtain ⟨hjmp, hjmpb, -⟩ := (rowFResults s ah al).1 hg0
    exact ⟨_, hjmp, hjmpb⟩
  | false => exact ⟨_, exec_of_gate0_cut hg0 _, by rw [exec_of_gate0_cut hg0, halted_jmpb]⟩

end Sys2Proof.Machine
end

section
/-! PROOFS. The family 46_reserved_opcodes.md: with gate 6 cut a cycle sees only the low nibble of an opcode outside row
F, so a reserved opcode does what the SGN instruction of that nibble does; with gate 0 cut it halts like any other. -/

namespace Sys2Proof.Machine

open Sys2Proof.Claims

/-! ### Outside row F with gate 6 cut (R123, R142, R277) -/

/-- Both fields DECODE reads lie in the low nibble, and the selector does not see the row. -/
theorem runWord_eq_of_same_low_nibble {op op' : Byte} {s : State} (hg6 : s.gates.g6 = false) (h : op.toNat < 0xF0)
    (h' : op'.toNat < 0xF0) (hlow : op'.toNat % 16 = op.toNat % 16) (ah al : Byte) :
    s.runWord op' ah al = { s.runWord op ah al with op := op' } := by
  have hp : fieldP op' = fieldP op := by
    rw [fieldP_of_lt h', fieldP_of_lt h]
    omega
  have hi : fieldI op' = fieldI op := by
    rw [fieldI_eq, fieldI_eq]
    split_ifs <;> omega
  exact runWord_eq_of_same_fields h h' hp hi (fun hon => absurd (hg6.symm.trans hon) Bool.false_ne_true) ah al

/-- The ALU always answers, so the cycle is committed. -/
theorem runWord_phase_of_gate6_cut {op : Byte} {s : State} (hg0 : s.gates.g0 = true) (hg6 : s.gates.g6 = false)
    (hlt : op.toNat < 0xF0) (ah al : Byte) : (s.runWord op ah al).phase = .fetch := by
  have hsome : (s.latchWord op ah al).decodePhase.result ≠ none := result_ne_none_of_gate6_cut hg6
  obtain ⟨r, hr⟩ := Option.ne_none_iff_exists'.1 hsome
  rw [runWord_eq_commit hg0 hlt hr, commit_phase]

/-! ### The reserved opcodes with gate 6 cut (R261) -/

/-- The opcode byte of `Claims.sgnOf`. -/
theorem toNat_sgnOpcode (low : BitVec 4) : (BitVec.ofNat 8 low.toNat).toNat = low.toNat :=
  (BitVec.toNat_ofNat ..).trans (Nat.mod_eq_of_lt (low.isLt.trans (by decide)))

/-- Settles O28: one cycle for all eleven rows, which differ from row 0 in the high nibble alone. -/
theorem reservedOpcodesActAsSgnWithGateSixCut : Obligations.ReservedOpcodesActAsSgnWithGateSixCut := by
  intro s low ah al hg0 hg6
  have hsgn := toNat_sgnOpcode low
  have hlow := low.isLt
  have hlt : (BitVec.ofNat 8 low.toNat).toNat < 0xF0 := by omega
  have h (row : BitVec 4) (hrow : row.toNat < 15) :
      Host.Outcome.next (s.runWord (nibblesOpcode row low) ah al) =
        (.next { s.runWord (BitVec.ofNat 8 low.toNat) ah al with op := nibblesOpcode row low } :
          Host.Outcome State Fault Refusal) := by
    have hop := toNat_nibblesOpcode row low
    rw [runWord_eq_of_same_low_nibble hg6 hlt (by omega) (by omega)]
  have hfetch := runWord_phase_of_gate6_cut hg0 hg6 hlt ah al
  exact ⟨_, exec_decodeWord _ ah al s, hfetch, h 0x4 (by decide), h 0x5 (by decide), h 0x6 (by decide),
    h 0x7 (by decide), h 0x8 (by decide), h 0x9 (by decide), h 0xA (by decide), h 0xB (by decide), h 0xC (by decide),
    h 0xD (by decide), h 0xE (by decide)⟩

/-! ### Gate 0 cut (R262) -/

/-- Settles O29: no instruction gets past CHECK-RUN, so the ALU is not asked for a function of the reserved rows. -/
theorem gateZeroCutHaltsEveryInstruction : Obligations.GateZeroCutHaltsEveryInstruction :=
  fun i _ hg0 => exec_of_gate0_cut hg0 i

end Sys2Proof.Machine
end

section
/-! PROOFS. The family 47_cut_wire_configurations.md: a run as a sequence of steps, and what is left of a cycle with gate 7,
gate 4 or gate 6 cut. -/

namespace Sys2Proof.Machine

/-! ### A run of `n` steps (R38) -/

/-- A run that answers a state took a first step and went on from there. -/
theorem run_succ_eq_next_iff {n : Nat} {s t : State} :
    Sys2Proof.core.run (n + 1) s = .next t ↔ ∃ u : State, step s = .next u ∧ Sys2Proof.core.run n u = .next t := by
  cases hstep : step s with
  | next u => simp [Host.Core.run, show Sys2Proof.core.step s = .next u from hstep]
  | fault r => simp [Host.Core.run, show Sys2Proof.core.step s = .fault r from hstep]
  | refused r => simp [Host.Core.run, show Sys2Proof.core.step s = .refused r from hstep]

theorem run_zero_eq_next_iff {s t : State} : Sys2Proof.core.run 0 s = .next t ↔ s = t :=
  ⟨Host.Outcome.next.inj, congrArg _⟩

/-- No step leaves a terminal phase, so a run from one that answers a state took none. -/
theorem eq_of_run_of_terminal {n : Nat} {s t : State} (hs : s.Terminal) (h : Sys2Proof.core.run n s = .next t) :
    t = s := by
  cases n with
  | zero => exact (run_zero_eq_next_iff.1 h).symm
  | succ n =>
    obtain ⟨u, hstep, -⟩ := run_succ_eq_next_iff.1 h
    exact absurd hstep (step_ne_next_of_terminal hs u)

/-! ### Gate 7 cut (R278) -/

@[simp] theorem commit_ip (r : Word) (s : State) :
    (s.commit r).ip = if s.wires.w7 && s.gates.g7 then s.ea else s.ip + 3 := by
  rw [commit_eq, mod65536_toNat_add, ofNat_instrBytes]
  rfl

/-- A completed cycle jumps only through gate 7. -/
theorem ip_of_step_of_gate7_cut {s t : State} (hfetch : s.phase = .fetch) (hg7 : s.gates.g7 = false)
    (h : step s = .next t) (ht : t.phase = .fetch) : t.ip = s.ip + 3 := by
  cases step_of_fetch_endsIn hfetch h with
  | halt => exact Phase.noConfusion ht
  | fault => exact Phase.noConfusion ht
  | commit r => simp [State.fetchPhase, hg7]

/-- Settles O35, by induction on the number of steps: each but the last ends in FETCH too, since a terminal phase would have
ended the run, and the gates are constant (the spec's decision D3). -/
theorem gateSevenCutWalksByThree : Obligations.GateSevenCutWalksByThree := by
  intro n
  induction n with
  | zero =>
    intro s t _ _ hrun _
    obtain rfl := run_zero_eq_next_iff.1 hrun
    exact (BitVec.add_zero _).symm
  | succ n ih =>
    intro s t hfetch hg7 hrun ht
    obtain ⟨u, hstep, hrest⟩ := run_succ_eq_next_iff.1 hrun
    have hu : u.phase = .fetch := by
      obtain hu | hterm := atBoundary_of_step hstep
      · exact hu
      · obtain rfl := eq_of_run_of_terminal hterm hrest
        exact ht
    have hgate : u.gates.g7 = false := (congrArg Gates.g7 (gates_of_step hstep)).trans hg7
    calc t.ip
      _ = u.ip + BitVec.ofNat 16 (3 * n) := ih u t hu hgate hrest ht
      _ = s.ip + 3 + BitVec.ofNat 16 (3 * n) := by rw [ip_of_step_of_gate7_cut hfetch hg7 hstep hu]
      _ = s.ip + BitVec.ofNat 16 (3 * (n + 1)) := by
        rw [BitVec.add_assoc, Nat.mul_succ, Nat.add_comm (3 * n), BitVec.ofNat_add]
        rfl

/-! ### Gate 4 cut (R275) -/

/-- Outside row F a cycle sees of its opcode only the field `p`, the ALU's answer and the raw wire 4. -/
theorem runWord_eq_of_same_result {op op' ah al : Byte} {s : State} (h : op.toNat < 0xF0) (h' : op'.toNat < 0xF0)
    (hp : fieldP op' = fieldP op)
    (hresult : (s.latchWord op' ah al).decodePhase.result = (s.latchWord op ah al).decodePhase.result) :
    s.runWord op' ah al =
      { s.runWord op ah al with op := op', wires := { (s.runWord op ah al).wires with w4 := op'.getLsbD 2 } } := by
  have hwires (e8 e9 : Bool) (w : Wires) :
      decodeWires op' e8 e9 w = { decodeWires op e8 e9 w with w4 := op'.getLsbD 2 } := by
    rw [decodeWires_of_lt h', decodeWires_of_lt h, ← fieldP_of_lt h', ← fieldP_of_lt h, hp]
  have hhlt : decide (op' ≠ 0xFF) = decide (op ≠ 0xFF) := by
    have hne : op ≠ 0xFF := ne_of_toNat_lt (h.trans (by decide))
    have hne' : op' ≠ 0xFF := ne_of_toNat_lt (h'.trans (by decide))
    rw [decide_eq_true hne, decide_eq_true hne']
  rw [runWord_eq, runWord_eq, hwires, hresult, hp, hhlt]
  dsimp only
  split
  · split
    · split <;> rfl
    · rfl
  · rfl

/-- A field of the opcode that bit 2 is no part of. -/
theorem extractLsb'_and_clear_two {k n : Nat} (op : Byte) (h : (0xFB : Byte).extractLsb' k n = BitVec.allOnes n) :
    (op &&& 0xFB).extractLsb' k n = op.extractLsb' k n := by
  rw [BitVec.extractLsb'_and, h, BitVec.and_allOnes]

theorem op4_clear_two (op : Byte) : op4 (op &&& 0xFB) = op4 op := extractLsb'_and_clear_two op rfl

theorem fieldP_clear_two (op : Byte) : fieldP (op &&& 0xFB) = fieldP op := by
  rw [fieldP, fieldP, op4_clear_two, extractLsb'_and_clear_two op rfl]

theorem toNat_and_lt_rowF {op : Byte} (h : op.toNat < 0xF0) (mask : Byte) : (op &&& mask).toNat < 0xF0 :=
  (BitVec.toNat_and ..).trans_lt (Nat.and_le_left.trans_lt h)

/-- The second operand of an immediate form is the memory operand once gate 4 is cut (R135). -/
theorem result_decoded_of_gate4_cut {op op' : Byte} {s : State} (hg4 : s.gates.g4 = false) (hrow : op4 op' = op4 op)
    (ah al : Byte) :
    (s.latchWord op' ah al).decodePhase.result = (s.latchWord op ah al).decodePhase.result := by
  rw [result_decoded, result_decoded, hrow, hg4, Bool.and_false, Bool.and_false]

/-- Settles O36: bit 2 is no part of the field `p` nor of the selector, and gate 4 is all it could reach the ALU through. -/
theorem gateFourCutMakesImmediateMemory : Obligations.GateFourCutMakesImmediateMemory := by
  intro s op ah al hlt hg4
  refine ⟨s.runWord (op &&& 0xFB) ah al, exec_decodeWord _ ah al s, ?_⟩
  rw [exec_decodeWord, runWord_eq_of_same_result (toNat_and_lt_rowF hlt 0xFB) hlt (fieldP_clear_two op).symm
    (result_decoded_of_gate4_cut hg4 (op4_clear_two op).symm ah al)]

/-! ### Gate 6 cut (R277) -/

theorem toNat_and_low_nibble (op : Byte) : (op &&& 0x0F).toNat = op.toNat % 16 :=
  (BitVec.toNat_and ..).trans (Nat.and_two_pow_sub_one_eq_mod op.toNat 4)

/-- Settles O37: the opcode of row 0 with the same low nibble is the low nibble itself. -/
theorem gateSixCutMakesEveryRowSgn : Obligations.GateSixCutMakesEveryRowSgn := by
  intro s op ah al hlt hg6
  have hlow : op.toNat % 16 = (op &&& 0x0F).toNat % 16 := by rw [toNat_and_low_nibble, Nat.mod_mod]
  refine ⟨s.runWord (op &&& 0x0F) ah al, exec_decodeWord _ ah al s, ?_⟩
  rw [exec_decodeWord, runWord_eq_of_same_low_nibble hg6 (toNat_and_lt_rowF hlt 0x0F) hlt hlow]

end Sys2Proof.Machine
end

section
/-! PROOFS. The family 60_exceptions.md: the opcodes on which a cycle ends in FAULT, and that a run has at most one end. -/

namespace Sys2Proof.Machine

open Sys2Proof.Claims

/-! ### Which cycles end in FAULT (R301, R302) -/

/-- Only EXECUTE raises InvalidAluSelector, so CHECK-RUN must have let the cycle through. -/
theorem checkThenExecute_phase_eq_fault_iff (c : State) :
    c.checkThenExecute.phase = .fault ↔ c.eff 0 = true ∧ c.result = none := by
  rw [result_eq_none_iff]
  cases h : c.eff 0 with
  | false =>
    rw [checkThenExecute_of_not_eff_zero h]
    exact iff_of_false Phase.noConfusion fun ⟨hrun, _⟩ => Bool.false_ne_true hrun
  | true =>
    rw [checkThenExecute_of_eff_zero h]
    obtain ⟨hphase, hsel⟩ | ⟨hphase, hsel⟩ := executePhase_phase { c with phase := .execute }
    · exact iff_of_true hphase ⟨rfl, hsel⟩
    · exact iff_of_false (by simp [hphase]) fun ⟨_, hno⟩ => hno hsel

theorem eff_zero_decoded_iff (op ah al : Byte) (s : State) :
    (s.latchWord op ah al).decodePhase.eff 0 = true ↔ op ≠ 0xFF ∧ s.gates.g0 = true := by
  rw [← Bool.not_eq_false, eff_zero_decoded_eq_false_iff, not_or, Bool.not_eq_false]

theorem runWord_phase_eq_fault_iff (op ah al : Byte) (s : State) :
    (s.runWord op ah al).phase = .fault ↔
      s.gates.g0 = true ∧ s.gates.g6 = true ∧ 0x40 ≤ op.toNat ∧ op.toNat ≤ 0xEF := by
  have hrows : 4 ≤ op.toNat / 16 ∧ op.toNat / 16 ≤ 14 ↔ 0x40 ≤ op.toNat ∧ op.toNat ≤ 0xEF := by omega
  rw [State.runWord, checkThenExecute_phase_eq_fault_iff, eff_zero_decoded_iff, result_decoded_eq_none_iff, hrows]
  refine ⟨fun ⟨⟨_, hg0⟩, hfault⟩ => ⟨hg0, hfault⟩, fun ⟨hg0, hg6, hge, hle⟩ => ⟨⟨?_, hg0⟩, hg6, hge, hle⟩⟩
  exact ne_of_toNat_lt (hle.trans_lt (by decide))

/-- Raising InvalidAluSelector leaves what DECODE left, as a halt does (the spec's decision D4). -/
theorem exec_eq_of_fault {i : Instr} {s t : State} (h : exec i s = .next t) (ht : t.phase = .fault) :
    t = { halted i s with phase := .fault } := by
  cases exec_endsIn h with
  | halt => exact Phase.noConfusion ht
  | fault => rfl
  | commit r => exact Phase.noConfusion ((commit_phase r _).symm.trans ht)

/-- Settles O31: gate 0 lets the cycle into EXECUTE, gate 6 the row into the selector (raw wire 6 is true at every DECODE, the
spec's decision D6), and the rows without an ALU function are 4 to E. -/
theorem faultExactlyOnReservedOpcodes : Obligations.FaultExactlyOnReservedOpcodes := fun i s =>
  ⟨_, exec_eq_runWord i s, runWord_phase_eq_fault_iff _ _ _ s, exec_eq_of_fault (exec_eq_runWord i s)⟩

/-! ### A run has at most one end (R38, R303) -/

theorem rightUnique_step : Relator.RightUnique fun s t : State => step s = .next t :=
  fun _ _ _ ht hu => Host.Outcome.next.inj (ht.symm.trans hu)

theorem reaches_iff_reflTransGen {s t : State} :
    Reaches s t ↔ Relation.ReflTransGen (fun s t : State => step s = .next t) s t := by
  constructor <;> intro h
  · induction h with
    | refl => exact .refl
    | tail _ hstep ih => exact ih.tail hstep
  · induction h with
    | refl => exact .refl s
    | tail _ hstep ih => exact ih.tail hstep

/-- Two terminal states of runs from one state are the same: one of them is reached from the other. -/
theorem eq_of_reaches_terminal {s t u : State} (ht : Reaches s t) (hu : Reaches s u) (hterm : t.Terminal)
    (hterm' : u.Terminal) : t = u := by
  rw [reaches_iff_reflTransGen] at ht hu
  obtain h | h := ht.total_of_right_unique rightUnique_step hu
  · exact (eq_of_reaches_of_terminal hterm (reaches_iff_reflTransGen.2 h)).symm
  · exact eq_of_reaches_of_terminal hterm' (reaches_iff_reflTransGen.2 h)

/-- Settles O48: the state in HALT would be the one in FAULT. -/
theorem faultingRunDoesNotHalt : Obligations.FaultingRunDoesNotHalt := by
  rintro s t ht hfault ⟨u, hu, hhalt⟩
  obtain rfl := eq_of_reaches_terminal ht hu (.inr hfault) (.inl hhalt)
  exact Phase.noConfusion (hfault.symm.trans hhalt)

end Sys2Proof.Machine
end

section
/-! PROOFS. The family 70_reset_and_hazards.md: booting a program text. -/

namespace Sys2Proof.Machine

/-- What the loader accepts fits into memory (R364). -/
theorem length_le_of_loadText {text : List Char} {image : List Byte} (h : loadText text = .ok image) :
    image.length ≤ 65536 :=
  length_le_of_readTokens h

theorem bootText_of_loadText_ok {text : List Char} {image : List Byte} (h : loadText text = .ok image)
    (config : Option (List Char)) : bootText config text = .ok (bootImage config image) := by
  rw [bootText, h]

theorem bootText_of_loadText_error {text : List Char} {e : LoadError} (h : loadText text = .error e)
    (config : Option (List Char)) : bootText config text = .error e := by
  rw [bootText, h]

/-- Settles O50: the room the loader reads with is the size of the memory, so its image is never too long to boot. -/
theorem loadedTextBoots : Obligations.LoadedTextBoots := by
  refine fun config text => ⟨fun image hload => ?_, fun e herror => bootText_of_loadText_error herror config⟩
  have hfit := length_le_of_loadText hload
  exact ⟨hfit, bootImage config image, bootText_of_loadText_ok hload config, boot_eq_some hfit config⟩

end Sys2Proof.Machine
end

section
/-! PROOFS. The family 80_interfaces_and_host.md: where a run under a budget stops, and from it its three outcomes and what a
larger budget does. -/

namespace Sys2Proof.Machine

/-! ### One turn of the run loop (R366, R369) -/

/-- What the run loop answers when it stops in `t` (R367). -/
def endOf (t : State) : RunEnd :=
  match t.phase with
  | .halt => .halted t
  | .fault => .faulted t
  | _ => .budgetExceeded t

theorem runFor_of_terminal {s : State} (hs : s.Terminal) (n : Nat) : runFor n s = endOf s := by
  unfold runFor endOf
  obtain h | h := hs <;> simp only [h]

theorem runFor_zero (s : State) : runFor 0 s = endOf s := by
  unfold runFor endOf
  cases s.phase <;> rfl

theorem runFor_succ {s u : State} (hs : ¬ s.Terminal) (hstep : step s = .next u) (n : Nat) :
    runFor (n + 1) s = runFor n u := by
  obtain ⟨hhalt, hfault⟩ := not_or.1 hs
  rw [runFor]
  split
  · next h => exact absurd h hhalt
  · next h => exact absurd h hfault
  · rw [hstep]

theorem endOf_eq_halted_iff {u t : State} : endOf u = .halted t ↔ u = t ∧ u.phase = .halt := by
  unfold endOf
  cases u.phase <;> simp

theorem endOf_eq_faulted_iff {u t : State} : endOf u = .faulted t ↔ u = t ∧ u.phase = .fault := by
  unfold endOf
  cases u.phase <;> simp

theorem endOf_eq_budgetExceeded_iff {u t : State} : endOf u = .budgetExceeded t ↔ u = t ∧ ¬ u.Terminal := by
  unfold endOf State.Terminal
  cases u.phase <;> simp

/-! ### Where the run loop stops (R367, R369) -/

/-- A run from `s` under a budget of `n` cycles stops in `t`: it takes fewer than `n` cycles only if `t` is terminal. -/
def StopsIn (n : Nat) (s t : State) : Prop :=
  ∃ k ≤ n, Sys2Proof.core.run k s = .next t ∧ (k < n → t.Terminal)

theorem stopsIn_of_terminal (n : Nat) {s : State} (hs : s.Terminal) : StopsIn n s s :=
  ⟨0, Nat.zero_le n, rfl, fun _ => hs⟩

theorem stopsIn_zero (s : State) : StopsIn 0 s s := ⟨0, le_rfl, rfl, fun h => absurd h (Nat.lt_irrefl 0)⟩

theorem StopsIn.of_step {n : Nat} {s u t : State} (hstep : step s = .next u) (h : StopsIn n u t) :
    StopsIn (n + 1) s t := by
  obtain ⟨k, hk, hrun, hterm⟩ := h
  exact ⟨k + 1, Nat.succ_le_succ hk, run_succ_eq_next_iff.2 ⟨u, hstep, hrun⟩,
    fun hlt => hterm (Nat.lt_of_succ_lt_succ hlt)⟩

/-- The run loop stops, and answers with the state it stops in. -/
theorem exists_stopsIn : ∀ (n : Nat) (s : State), ∃ t : State, StopsIn n s t ∧ runFor n s = endOf t
  | 0, s => ⟨s, stopsIn_zero s, runFor_zero s⟩
  | n + 1, s => by
    by_cases hs : s.Terminal
    · exact ⟨s, stopsIn_of_terminal (n + 1) hs, runFor_of_terminal hs (n + 1)⟩
    · obtain ⟨u, hstep⟩ := exists_step_of_not_terminal hs
      obtain ⟨t, hstops, hend⟩ := exists_stopsIn n u
      exact ⟨t, hstops.of_step hstep, (runFor_succ hs hstep n).trans hend⟩

/-- A longer run from `s` is no further on than one that has ended. -/
theorem eq_of_run_of_run_terminal {k m : Nat} {s t u : State} (hkm : k ≤ m) (hk : Sys2Proof.core.run k s = .next t)
    (hterm : t.Terminal) (hm : Sys2Proof.core.run m s = .next u) : t = u := by
  induction k generalizing m s with
  | zero =>
    obtain rfl := run_zero_eq_next_iff.1 hk
    exact (eq_of_run_of_terminal hterm hm).symm
  | succ k ih =>
    obtain ⟨m, rfl⟩ := Nat.exists_eq_succ_of_ne_zero (Nat.ne_zero_of_lt hkm)
    obtain ⟨v, hv, hkv⟩ := run_succ_eq_next_iff.1 hk
    obtain ⟨w, hw, hmw⟩ := run_succ_eq_next_iff.1 hm
    obtain rfl := rightUnique_step hv hw
    exact ih (Nat.le_of_succ_le_succ hkm) hkv hmw

theorem StopsIn.unique {n : Nat} {s t u : State} (ht : StopsIn n s t) (hu : StopsIn n s u) : t = u := by
  obtain ⟨k, hk, hrun, hterm⟩ := ht
  obtain ⟨m, hm, hrun', hterm'⟩ := hu
  obtain hlt | rfl | hlt := lt_trichotomy k m
  · exact eq_of_run_of_run_terminal hlt.le hrun (hterm (hlt.trans_le hm)) hrun'
  · exact Host.Outcome.next.inj (hrun.symm.trans hrun')
  · exact (eq_of_run_of_run_terminal hlt.le hrun' (hterm' (hlt.trans_le hk)) hrun).symm

/-- An outcome that tells its state names the state in which the run stops. -/
theorem runFor_eq_iff {e : State → RunEnd} {P : State → Prop} (he : ∀ {u t : State}, endOf u = e t ↔ u = t ∧ P u)
    (n : Nat) (s t : State) : runFor n s = e t ↔ P t ∧ StopsIn n s t := by
  obtain ⟨u, hstops, hend⟩ := exists_stopsIn n s
  rw [hend, he]
  constructor
  · rintro ⟨rfl, hP⟩
    exact ⟨hP, hstops⟩
  · rintro ⟨hP, ht⟩
    obtain rfl := hstops.unique ht
    exact ⟨rfl, hP⟩

theorem stopsIn_iff_of_terminal {n : Nat} {s t : State} (ht : t.Terminal) :
    StopsIn n s t ↔ ∃ k ≤ n, Sys2Proof.core.run k s = .next t :=
  ⟨fun ⟨k, hk, hrun, _⟩ => ⟨k, hk, hrun⟩, fun ⟨k, hk, hrun⟩ => ⟨k, hk, hrun, fun _ => ht⟩⟩

theorem stopsIn_iff_of_not_terminal {n : Nat} {s t : State} (ht : ¬ t.Terminal) :
    StopsIn n s t ↔ Sys2Proof.core.run n s = .next t := by
  refine ⟨fun ⟨k, hk, hrun, hterm⟩ => ?_, fun hrun => ⟨n, le_rfl, hrun, fun h => absurd h (Nat.lt_irrefl n)⟩⟩
  obtain hlt | rfl := hk.lt_or_eq
  · exact absurd (hterm hlt) ht
  · exact hrun

/-! ### The three outcomes, from any state (R367) -/

theorem runFor_eq_halted_iff (n : Nat) (s t : State) :
    runFor n s = .halted t ↔ t.phase = .halt ∧ ∃ k ≤ n, Sys2Proof.core.run k s = .next t :=
  (runFor_eq_iff endOf_eq_halted_iff n s t).trans (and_congr_right fun h => stopsIn_iff_of_terminal (.inl h))

theorem runFor_eq_faulted_iff (n : Nat) (s t : State) :
    runFor n s = .faulted t ↔ t.phase = .fault ∧ ∃ k ≤ n, Sys2Proof.core.run k s = .next t :=
  (runFor_eq_iff endOf_eq_faulted_iff n s t).trans (and_congr_right fun h => stopsIn_iff_of_terminal (.inr h))

theorem runFor_eq_budgetExceeded_iff (n : Nat) (s t : State) :
    runFor n s = .budgetExceeded t ↔ ¬ t.Terminal ∧ Sys2Proof.core.run n s = .next t :=
  (runFor_eq_iff endOf_eq_budgetExceeded_iff n s t).trans (and_congr_right stopsIn_iff_of_not_terminal)

/-- Settles O46: the run was over within the smaller budget already. -/
theorem largerBudgetKeepsTheOutcome : Obligations.LargerBudgetKeepsTheOutcome := by
  intro n k s t
  have hmono (h : ∃ j ≤ n, Sys2Proof.core.run j s = .next t) : ∃ j ≤ n + k, Sys2Proof.core.run j s = .next t := by
    obtain ⟨j, hj, hrun⟩ := h
    exact ⟨j, Nat.le_add_right_of_le hj, hrun⟩
  rw [runFor_eq_halted_iff, runFor_eq_halted_iff, runFor_eq_faulted_iff, runFor_eq_faulted_iff]
  exact ⟨And.imp_right hmono, And.imp_right hmono⟩

/-! ### The three outcomes, from a state between cycles (R366, R367) -/

theorem reaches_of_run : ∀ {n : Nat} {s t : State}, Sys2Proof.core.run n s = .next t → Reaches s t
  | 0, s, t, h => run_zero_eq_next_iff.1 h ▸ .refl s
  | n + 1, s, t, h => by
    obtain ⟨u, hstep, hrest⟩ := run_succ_eq_next_iff.1 h
    exact reaches_iff_reflTransGen.2 ((reaches_iff_reflTransGen.1 (reaches_of_run hrest)).head hstep)

/-- Between cycles a machine that is not in a terminal phase is in FETCH (R36). -/
theorem runFor_eq_budgetExceeded_iff_of_atBoundary {s : State} (hs : s.AtBoundary) (n : Nat) (t : State) :
    runFor n s = .budgetExceeded t ↔ t.phase = .fetch ∧ Sys2Proof.core.run n s = .next t := by
  rw [runFor_eq_budgetExceeded_iff]
  refine and_congr_left fun hrun => ⟨fun hterm => ?_, fun hfetch => by simp [State.Terminal, hfetch]⟩
  have ht : t.AtBoundary := (reaches_of_run hrun).keeps (fun hstep _ => atBoundary_of_step hstep) hs
  exact ht.resolve_right hterm

/-- Settles O45: the outcome is one of the three, and each says where the run stopped. -/
theorem runOutcomesAreDistinct : Obligations.RunOutcomesAreDistinct := by
  intro n s hs
  refine ⟨?_, runFor_eq_halted_iff n s, runFor_eq_faulted_iff n s, runFor_eq_budgetExceeded_iff_of_atBoundary hs n⟩
  split
  · next t h =>
    obtain ⟨hhalt, k, -, hrun⟩ := (runFor_eq_halted_iff n s t).1 h
    exact ⟨hhalt, reaches_of_run hrun⟩
  · next t h =>
    obtain ⟨hfault, k, -, hrun⟩ := (runFor_eq_faulted_iff n s t).1 h
    exact ⟨hfault, reaches_of_run hrun⟩
  · next t h =>
    obtain ⟨hfetch, hrun⟩ := (runFor_eq_budgetExceeded_iff_of_atBoundary hs n t).1 h
    exact ⟨hfetch, reaches_of_run hrun⟩

end Sys2Proof.Machine
end
